-- ==== Sys2Proof/Word.lean ====
section
/-! DEFINITION. The two word types of the spec (00_scope.md R7): a byte is an unsigned 8-bit value, a word an unsigned
16-bit value. Byte order, sign extension and bit fields stand in Decode.lean and under Machine/. -/

namespace Sys2Proof

/-- An unsigned 8-bit value (R7). -/
abbrev Byte := BitVec 8

/-- An unsigned 16-bit value (R7). -/
abbrev Word := BitVec 16

end Sys2Proof
end

