-- ==== Sys2Proof/Fields.lean ====
section
/-! DEFINITION. The operand tables of 30_encoding.md as types (R83, R85, R87, R88, R95), and `Form`: an instruction as
the spec's rules group it, an operation with its operand slots. Decode.lean turns bits into a form and a form into the
constructor of Instr that stands for its row of the opcode table. -/

namespace Sys2Proof

/-- The seven 8-bit data registers an operand slot can name (30_encoding.md R83). -/
inductive Reg8 where
  | b | c | d | e | h | l | a
  deriving DecidableEq, Repr

/-- The eight operand slots (R83): seven registers and the byte at HL. -/
inductive Slot where
  | reg (r : Reg8)
  | atHL
  deriving DecidableEq, Repr

/-- The pairs of table rp (R85). -/
inductive Pair where
  | bc | de | hl | sp
  deriving DecidableEq, Repr

/-- The pairs of table rp2, for PUSH and POP (R85). -/
inductive StackPair where
  | bc | de | hl | af
  deriving DecidableEq, Repr

/-- The four memory-indirect forms of opcodes 02, 0A, 12, 1A, 22, 2A, 32 and 3A (R85). -/
inductive Indirect where
  | bc | de | hlInc | hlDec
  deriving DecidableEq, Repr

/-- The four conditions (R88). -/
inductive Cond where
  | nz | z | nc | c
  deriving DecidableEq, Repr

/-- The eight ALU operations (R95). -/
inductive AluOp where
  | add | adc | sub | sbc | and | xor | or | cp
  deriving DecidableEq, Repr

/-- The eight operations of the shift unit (42_rotate_shift_bit.md R180, 30_encoding.md R87). -/
inductive ShiftOp where
  | rlc | rrc | rl | rr | sla | sra | swap | srl
  deriving DecidableEq, Repr

/-- The four rotates of A on the main page (42_rotate_shift_bit.md section 2). -/
inductive RotA where
  | rlca | rrca | rla | rra
  deriving DecidableEq, Repr

/-- A 3-bit field value: a bit number of the CB page (R87), or y of an RST (R92). -/
inductive Oct where
  | o0 | o1 | o2 | o3 | o4 | o5 | o6 | o7
  deriving DecidableEq, Repr

/-- The 11 unused main-page opcodes (R86). -/
inductive Unused where
  | xD3 | xDB | xDD | xE3 | xE4 | xEB | xEC | xED | xF4 | xFC | xFD
  deriving DecidableEq, Repr

/-- An instruction as the rules of files 40 to 45 group it. -/
inductive Form where
  | alu (op : AluOp) (src : Slot)
  | aluImm (op : AluOp) (n : Byte)
  | inc (t : Slot)
  | dec (t : Slot)
  | daa | cpl | scf | ccf
  | addHL (rr : Pair)
  | incPair (rr : Pair)
  | decPair (rr : Pair)
  | addSP (e : Byte)
  | ldHLSP (e : Byte)
  | rotA (op : RotA)
  | shift (op : ShiftOp) (t : Slot)
  | bit (b : Oct) (t : Slot)
  | res (b : Oct) (t : Slot)
  | set (b : Oct) (t : Slot)
  | ldReg (dst : Reg8) (src : Slot)
  | ldStore (src : Reg8)
  | ldImm (dst : Slot) (n : Byte)
  | ldPair (rr : Pair) (w : Word)
  | ldToInd (i : Indirect)
  | ldFromInd (i : Indirect)
  | ldhStore (n : Byte)
  | ldhLoad (n : Byte)
  | ldCStore
  | ldCLoad
  | ldAbsStore (a : Word)
  | ldAbsLoad (a : Word)
  | ldAbsSP (a : Word)
  | ldSPHL
  | push (rr : StackPair)
  | pop (rr : StackPair)
  | jp (a : Word)
  | jpIf (cc : Cond) (a : Word)
  | jpHL
  | jr (e : Byte)
  | jrIf (cc : Cond) (e : Byte)
  | call (a : Word)
  | callIf (cc : Cond) (a : Word)
  | ret
  | retIf (cc : Cond)
  | reti
  | rst (y : Oct)
  | nop | halt | stop | di | ei
  | unused (u : Unused)
  deriving DecidableEq, Repr

end Sys2Proof
end

