-- ==== Sys2Proof/Config.lean ====
section
/-! DEFINITION. What the host fixes before a run (00_scope.md R6, 10_state.md R33): the parameters F_LOW_POLICY and
STOP_LEN, and the shape of the attached memory (20_memory.md R53 to R58). The bytes of memory are state and stand in
Machine/State.lean.

The spec takes the parameters as arguments of the model. Here they are plain data that a machine carries beside its
state and that no step writes (log 1), so a statement about every state is a statement about every value of them. -/

namespace Sys2Proof

/-- F_LOW_POLICY: what a whole-byte write of F puts in bits 3:0 (10_state.md R23, D2). -/
inductive FLowPolicy where
  | preserve
  | zero
  deriving DecidableEq, Repr

/-- STOP_LEN: how many bytes STOP consumes (45_system.md R292, D3). -/
inductive StopLen where
  | one
  | two
  deriving DecidableEq, Repr

/-- The two parameters of the core (00_scope.md R6). -/
structure Params where
  fLow : FLowPolicy
  stopLen : StopLen
  deriving DecidableEq, Repr

/-- An address range, inclusive at both ends (20_memory.md R53, D13). Addresses are natural numbers: a store may be
larger than 65536 bytes (R61, D17), and a router's target range is not limited to 16 bits (R54, D20). -/
structure AddrRange where
  lo : Nat
  hi : Nat
  deriving DecidableEq, Repr

mutual
/-- A byte-addressable object (20_memory.md R53, R57, R58): the flat store with a number, or a router. Several map
entries may name one store, which is how a mirror is written (R54, D20). A router holds no bytes of its own (R57), so it
is the list of its entries. -/
inductive Port where
  | flat (store : Nat)
  | router (entries : MapList)
  deriving DecidableEq, Repr
/-- A router's map entries in registration order (R53): an entry is a backing, a target range and a local range. -/
inductive MapList where
  | nil
  | cons (backing : Port) (target loc : AddrRange) (rest : MapList)
  deriving DecidableEq, Repr
end

end Sys2Proof
end

