-- ==== Sys2Proof/Decode.lean ====
section
/-! DEFINITION. The decoder (30_encoding.md R80 to R99), total on bytes, and after it the encoder.

The decoder follows the field rules R82 to R96: it splits the opcode byte into x, y, z, p and q and answers a `Form`;
`instrOf` names the form's row of the opcode table. The encoder is written from the table itself, opcode by opcode, so
that decoding what it writes checks one against the other. -/

namespace Sys2Proof

/-- lo(w) = w[7:0] (00_scope.md R7). -/
def lo (w : Word) : Byte := w.setWidth 8

/-- hi(w) = w[15:8] (R7). -/
def hi (w : Word) : Byte := (w >>> 8).setWidth 8

/-- The word with high byte `h` and low byte `l` (R7). -/
def join (h l : Byte) : Word := h ++ l

/-! ## The opcode table's rows by form -/

/-- The ALU instruction of an operation on a slot (30_encoding.md R95, R97). -/
def aluInstr : AluOp → Slot → Instr
  | .add, .reg .b => .add_A_B | .add, .reg .c => .add_A_C | .add, .reg .d => .add_A_D | .add, .reg .e => .add_A_E
  | .add, .reg .h => .add_A_H | .add, .reg .l => .add_A_L | .add, .atHL => .add_A_atHL | .add, .reg .a => .add_A_A
  | .adc, .reg .b => .adc_A_B | .adc, .reg .c => .adc_A_C | .adc, .reg .d => .adc_A_D | .adc, .reg .e => .adc_A_E
  | .adc, .reg .h => .adc_A_H | .adc, .reg .l => .adc_A_L | .adc, .atHL => .adc_A_atHL | .adc, .reg .a => .adc_A_A
  | .sub, .reg .b => .sub_B | .sub, .reg .c => .sub_C | .sub, .reg .d => .sub_D | .sub, .reg .e => .sub_E
  | .sub, .reg .h => .sub_H | .sub, .reg .l => .sub_L | .sub, .atHL => .sub_atHL | .sub, .reg .a => .sub_A
  | .sbc, .reg .b => .sbc_A_B | .sbc, .reg .c => .sbc_A_C | .sbc, .reg .d => .sbc_A_D | .sbc, .reg .e => .sbc_A_E
  | .sbc, .reg .h => .sbc_A_H | .sbc, .reg .l => .sbc_A_L | .sbc, .atHL => .sbc_A_atHL | .sbc, .reg .a => .sbc_A_A
  | .and, .reg .b => .and_B | .and, .reg .c => .and_C | .and, .reg .d => .and_D | .and, .reg .e => .and_E
  | .and, .reg .h => .and_H | .and, .reg .l => .and_L | .and, .atHL => .and_atHL | .and, .reg .a => .and_A
  | .xor, .reg .b => .xor_B | .xor, .reg .c => .xor_C | .xor, .reg .d => .xor_D | .xor, .reg .e => .xor_E
  | .xor, .reg .h => .xor_H | .xor, .reg .l => .xor_L | .xor, .atHL => .xor_atHL | .xor, .reg .a => .xor_A
  | .or, .reg .b => .or_B | .or, .reg .c => .or_C | .or, .reg .d => .or_D | .or, .reg .e => .or_E
  | .or, .reg .h => .or_H | .or, .reg .l => .or_L | .or, .atHL => .or_atHL | .or, .reg .a => .or_A
  | .cp, .reg .b => .cp_B | .cp, .reg .c => .cp_C | .cp, .reg .d => .cp_D | .cp, .reg .e => .cp_E
  | .cp, .reg .h => .cp_H | .cp, .reg .l => .cp_L | .cp, .atHL => .cp_atHL | .cp, .reg .a => .cp_A

/-- The CB-page rotate, shift or SWAP of a slot (R87, R98). -/
def shiftInstr : ShiftOp → Slot → Instr
  | .rlc, .reg .b => .rlc_B | .rlc, .reg .c => .rlc_C | .rlc, .reg .d => .rlc_D | .rlc, .reg .e => .rlc_E
  | .rlc, .reg .h => .rlc_H | .rlc, .reg .l => .rlc_L | .rlc, .atHL => .rlc_atHL | .rlc, .reg .a => .rlc_A
  | .rrc, .reg .b => .rrc_B | .rrc, .reg .c => .rrc_C | .rrc, .reg .d => .rrc_D | .rrc, .reg .e => .rrc_E
  | .rrc, .reg .h => .rrc_H | .rrc, .reg .l => .rrc_L | .rrc, .atHL => .rrc_atHL | .rrc, .reg .a => .rrc_A
  | .rl, .reg .b => .rl_B | .rl, .reg .c => .rl_C | .rl, .reg .d => .rl_D | .rl, .reg .e => .rl_E
  | .rl, .reg .h => .rl_H | .rl, .reg .l => .rl_L | .rl, .atHL => .rl_atHL | .rl, .reg .a => .rl_A
  | .rr, .reg .b => .rr_B | .rr, .reg .c => .rr_C | .rr, .reg .d => .rr_D | .rr, .reg .e => .rr_E
  | .rr, .reg .h => .rr_H | .rr, .reg .l => .rr_L | .rr, .atHL => .rr_atHL | .rr, .reg .a => .rr_A
  | .sla, .reg .b => .sla_B | .sla, .reg .c => .sla_C | .sla, .reg .d => .sla_D | .sla, .reg .e => .sla_E
  | .sla, .reg .h => .sla_H | .sla, .reg .l => .sla_L | .sla, .atHL => .sla_atHL | .sla, .reg .a => .sla_A
  | .sra, .reg .b => .sra_B | .sra, .reg .c => .sra_C | .sra, .reg .d => .sra_D | .sra, .reg .e => .sra_E
  | .sra, .reg .h => .sra_H | .sra, .reg .l => .sra_L | .sra, .atHL => .sra_atHL | .sra, .reg .a => .sra_A
  | .swap, .reg .b => .swap_B | .swap, .reg .c => .swap_C | .swap, .reg .d => .swap_D | .swap, .reg .e => .swap_E
  | .swap, .reg .h => .swap_H | .swap, .reg .l => .swap_L | .swap, .atHL => .swap_atHL | .swap, .reg .a => .swap_A
  | .srl, .reg .b => .srl_B | .srl, .reg .c => .srl_C | .srl, .reg .d => .srl_D | .srl, .reg .e => .srl_E
  | .srl, .reg .h => .srl_H | .srl, .reg .l => .srl_L | .srl, .atHL => .srl_atHL | .srl, .reg .a => .srl_A

/-- BIT b on a slot (R87, R98). -/
def bitInstr : Oct → Slot → Instr
  | .o0, .reg .b => .bit_0_B | .o0, .reg .c => .bit_0_C | .o0, .reg .d => .bit_0_D | .o0, .reg .e => .bit_0_E
  | .o0, .reg .h => .bit_0_H | .o0, .reg .l => .bit_0_L | .o0, .atHL => .bit_0_atHL | .o0, .reg .a => .bit_0_A
  | .o1, .reg .b => .bit_1_B | .o1, .reg .c => .bit_1_C | .o1, .reg .d => .bit_1_D | .o1, .reg .e => .bit_1_E
  | .o1, .reg .h => .bit_1_H | .o1, .reg .l => .bit_1_L | .o1, .atHL => .bit_1_atHL | .o1, .reg .a => .bit_1_A
  | .o2, .reg .b => .bit_2_B | .o2, .reg .c => .bit_2_C | .o2, .reg .d => .bit_2_D | .o2, .reg .e => .bit_2_E
  | .o2, .reg .h => .bit_2_H | .o2, .reg .l => .bit_2_L | .o2, .atHL => .bit_2_atHL | .o2, .reg .a => .bit_2_A
  | .o3, .reg .b => .bit_3_B | .o3, .reg .c => .bit_3_C | .o3, .reg .d => .bit_3_D | .o3, .reg .e => .bit_3_E
  | .o3, .reg .h => .bit_3_H | .o3, .reg .l => .bit_3_L | .o3, .atHL => .bit_3_atHL | .o3, .reg .a => .bit_3_A
  | .o4, .reg .b => .bit_4_B | .o4, .reg .c => .bit_4_C | .o4, .reg .d => .bit_4_D | .o4, .reg .e => .bit_4_E
  | .o4, .reg .h => .bit_4_H | .o4, .reg .l => .bit_4_L | .o4, .atHL => .bit_4_atHL | .o4, .reg .a => .bit_4_A
  | .o5, .reg .b => .bit_5_B | .o5, .reg .c => .bit_5_C | .o5, .reg .d => .bit_5_D | .o5, .reg .e => .bit_5_E
  | .o5, .reg .h => .bit_5_H | .o5, .reg .l => .bit_5_L | .o5, .atHL => .bit_5_atHL | .o5, .reg .a => .bit_5_A
  | .o6, .reg .b => .bit_6_B | .o6, .reg .c => .bit_6_C | .o6, .reg .d => .bit_6_D | .o6, .reg .e => .bit_6_E
  | .o6, .reg .h => .bit_6_H | .o6, .reg .l => .bit_6_L | .o6, .atHL => .bit_6_atHL | .o6, .reg .a => .bit_6_A
  | .o7, .reg .b => .bit_7_B | .o7, .reg .c => .bit_7_C | .o7, .reg .d => .bit_7_D | .o7, .reg .e => .bit_7_E
  | .o7, .reg .h => .bit_7_H | .o7, .reg .l => .bit_7_L | .o7, .atHL => .bit_7_atHL | .o7, .reg .a => .bit_7_A

/-- RES b on a slot (R87, R98). -/
def resInstr : Oct → Slot → Instr
  | .o0, .reg .b => .res_0_B | .o0, .reg .c => .res_0_C | .o0, .reg .d => .res_0_D | .o0, .reg .e => .res_0_E
  | .o0, .reg .h => .res_0_H | .o0, .reg .l => .res_0_L | .o0, .atHL => .res_0_atHL | .o0, .reg .a => .res_0_A
  | .o1, .reg .b => .res_1_B | .o1, .reg .c => .res_1_C | .o1, .reg .d => .res_1_D | .o1, .reg .e => .res_1_E
  | .o1, .reg .h => .res_1_H | .o1, .reg .l => .res_1_L | .o1, .atHL => .res_1_atHL | .o1, .reg .a => .res_1_A
  | .o2, .reg .b => .res_2_B | .o2, .reg .c => .res_2_C | .o2, .reg .d => .res_2_D | .o2, .reg .e => .res_2_E
  | .o2, .reg .h => .res_2_H | .o2, .reg .l => .res_2_L | .o2, .atHL => .res_2_atHL | .o2, .reg .a => .res_2_A
  | .o3, .reg .b => .res_3_B | .o3, .reg .c => .res_3_C | .o3, .reg .d => .res_3_D | .o3, .reg .e => .res_3_E
  | .o3, .reg .h => .res_3_H | .o3, .reg .l => .res_3_L | .o3, .atHL => .res_3_atHL | .o3, .reg .a => .res_3_A
  | .o4, .reg .b => .res_4_B | .o4, .reg .c => .res_4_C | .o4, .reg .d => .res_4_D | .o4, .reg .e => .res_4_E
  | .o4, .reg .h => .res_4_H | .o4, .reg .l => .res_4_L | .o4, .atHL => .res_4_atHL | .o4, .reg .a => .res_4_A
  | .o5, .reg .b => .res_5_B | .o5, .reg .c => .res_5_C | .o5, .reg .d => .res_5_D | .o5, .reg .e => .res_5_E
  | .o5, .reg .h => .res_5_H | .o5, .reg .l => .res_5_L | .o5, .atHL => .res_5_atHL | .o5, .reg .a => .res_5_A
  | .o6, .reg .b => .res_6_B | .o6, .reg .c => .res_6_C | .o6, .reg .d => .res_6_D | .o6, .reg .e => .res_6_E
  | .o6, .reg .h => .res_6_H | .o6, .reg .l => .res_6_L | .o6, .atHL => .res_6_atHL | .o6, .reg .a => .res_6_A
  | .o7, .reg .b => .res_7_B | .o7, .reg .c => .res_7_C | .o7, .reg .d => .res_7_D | .o7, .reg .e => .res_7_E
  | .o7, .reg .h => .res_7_H | .o7, .reg .l => .res_7_L | .o7, .atHL => .res_7_atHL | .o7, .reg .a => .res_7_A

/-- SET b on a slot (R87, R98). -/
def setInstr : Oct → Slot → Instr
  | .o0, .reg .b => .set_0_B | .o0, .reg .c => .set_0_C | .o0, .reg .d => .set_0_D | .o0, .reg .e => .set_0_E
  | .o0, .reg .h => .set_0_H | .o0, .reg .l => .set_0_L | .o0, .atHL => .set_0_atHL | .o0, .reg .a => .set_0_A
  | .o1, .reg .b => .set_1_B | .o1, .reg .c => .set_1_C | .o1, .reg .d => .set_1_D | .o1, .reg .e => .set_1_E
  | .o1, .reg .h => .set_1_H | .o1, .reg .l => .set_1_L | .o1, .atHL => .set_1_atHL | .o1, .reg .a => .set_1_A
  | .o2, .reg .b => .set_2_B | .o2, .reg .c => .set_2_C | .o2, .reg .d => .set_2_D | .o2, .reg .e => .set_2_E
  | .o2, .reg .h => .set_2_H | .o2, .reg .l => .set_2_L | .o2, .atHL => .set_2_atHL | .o2, .reg .a => .set_2_A
  | .o3, .reg .b => .set_3_B | .o3, .reg .c => .set_3_C | .o3, .reg .d => .set_3_D | .o3, .reg .e => .set_3_E
  | .o3, .reg .h => .set_3_H | .o3, .reg .l => .set_3_L | .o3, .atHL => .set_3_atHL | .o3, .reg .a => .set_3_A
  | .o4, .reg .b => .set_4_B | .o4, .reg .c => .set_4_C | .o4, .reg .d => .set_4_D | .o4, .reg .e => .set_4_E
  | .o4, .reg .h => .set_4_H | .o4, .reg .l => .set_4_L | .o4, .atHL => .set_4_atHL | .o4, .reg .a => .set_4_A
  | .o5, .reg .b => .set_5_B | .o5, .reg .c => .set_5_C | .o5, .reg .d => .set_5_D | .o5, .reg .e => .set_5_E
  | .o5, .reg .h => .set_5_H | .o5, .reg .l => .set_5_L | .o5, .atHL => .set_5_atHL | .o5, .reg .a => .set_5_A
  | .o6, .reg .b => .set_6_B | .o6, .reg .c => .set_6_C | .o6, .reg .d => .set_6_D | .o6, .reg .e => .set_6_E
  | .o6, .reg .h => .set_6_H | .o6, .reg .l => .set_6_L | .o6, .atHL => .set_6_atHL | .o6, .reg .a => .set_6_A
  | .o7, .reg .b => .set_7_B | .o7, .reg .c => .set_7_C | .o7, .reg .d => .set_7_D | .o7, .reg .e => .set_7_E
  | .o7, .reg .h => .set_7_H | .o7, .reg .l => .set_7_L | .o7, .atHL => .set_7_atHL | .o7, .reg .a => .set_7_A

/-- LD of a register from a slot (R94, R97). -/
def ldRegInstr : Reg8 → Slot → Instr
  | .b, .reg .b => .ld_B_B | .b, .reg .c => .ld_B_C | .b, .reg .d => .ld_B_D | .b, .reg .e => .ld_B_E
  | .b, .reg .h => .ld_B_H | .b, .reg .l => .ld_B_L | .b, .atHL => .ld_B_atHL | .b, .reg .a => .ld_B_A
  | .c, .reg .b => .ld_C_B | .c, .reg .c => .ld_C_C | .c, .reg .d => .ld_C_D | .c, .reg .e => .ld_C_E
  | .c, .reg .h => .ld_C_H | .c, .reg .l => .ld_C_L | .c, .atHL => .ld_C_atHL | .c, .reg .a => .ld_C_A
  | .d, .reg .b => .ld_D_B | .d, .reg .c => .ld_D_C | .d, .reg .d => .ld_D_D | .d, .reg .e => .ld_D_E
  | .d, .reg .h => .ld_D_H | .d, .reg .l => .ld_D_L | .d, .atHL => .ld_D_atHL | .d, .reg .a => .ld_D_A
  | .e, .reg .b => .ld_E_B | .e, .reg .c => .ld_E_C | .e, .reg .d => .ld_E_D | .e, .reg .e => .ld_E_E
  | .e, .reg .h => .ld_E_H | .e, .reg .l => .ld_E_L | .e, .atHL => .ld_E_atHL | .e, .reg .a => .ld_E_A
  | .h, .reg .b => .ld_H_B | .h, .reg .c => .ld_H_C | .h, .reg .d => .ld_H_D | .h, .reg .e => .ld_H_E
  | .h, .reg .h => .ld_H_H | .h, .reg .l => .ld_H_L | .h, .atHL => .ld_H_atHL | .h, .reg .a => .ld_H_A
  | .l, .reg .b => .ld_L_B | .l, .reg .c => .ld_L_C | .l, .reg .d => .ld_L_D | .l, .reg .e => .ld_L_E
  | .l, .reg .h => .ld_L_H | .l, .reg .l => .ld_L_L | .l, .atHL => .ld_L_atHL | .l, .reg .a => .ld_L_A
  | .a, .reg .b => .ld_A_B | .a, .reg .c => .ld_A_C | .a, .reg .d => .ld_A_D | .a, .reg .e => .ld_A_E
  | .a, .reg .h => .ld_A_H | .a, .reg .l => .ld_A_L | .a, .atHL => .ld_A_atHL | .a, .reg .a => .ld_A_A

/-- INC of a slot (R83, R93, C1). -/
def incInstr : Slot → Instr
  | .reg .b => .inc_B | .reg .c => .inc_C | .reg .d => .inc_D | .reg .e => .inc_E
  | .reg .h => .inc_H | .reg .l => .inc_L | .atHL => .inc_atHL | .reg .a => .inc_A

/-- DEC of a slot (R83, R93, C1). -/
def decInstr : Slot → Instr
  | .reg .b => .dec_B | .reg .c => .dec_C | .reg .d => .dec_D | .reg .e => .dec_E
  | .reg .h => .dec_H | .reg .l => .dec_L | .atHL => .dec_atHL | .reg .a => .dec_A

/-- LD (HL),r (R94, R97). -/
def ldStoreInstr : Reg8 → Instr
  | .b => .ld_atHL_B | .c => .ld_atHL_C | .d => .ld_atHL_D | .e => .ld_atHL_E
  | .h => .ld_atHL_H | .l => .ld_atHL_L | .a => .ld_atHL_A

/-- LD of a slot with an immediate byte (R93, R97). -/
def ldImmInstr (n : Byte) : Slot → Instr
  | .reg .b => .ld_B_n8 n | .reg .c => .ld_C_n8 n | .reg .d => .ld_D_n8 n | .reg .e => .ld_E_n8 n
  | .reg .h => .ld_H_n8 n | .reg .l => .ld_L_n8 n | .atHL => .ld_atHL_n8 n | .reg .a => .ld_A_n8 n

/-- The ALU instruction of an operation on an immediate byte (R96, R97). -/
def aluImmInstr (n : Byte) : AluOp → Instr
  | .add => .add_A_n8 n | .adc => .adc_A_n8 n | .sub => .sub_n8 n | .sbc => .sbc_A_n8 n
  | .and => .and_n8 n | .xor => .xor_n8 n | .or => .or_n8 n | .cp => .cp_n8 n

/-- ADD HL,rr (R93). -/
def addHLInstr : Pair → Instr
  | .bc => .add_HL_BC | .de => .add_HL_DE | .hl => .add_HL_HL | .sp => .add_HL_SP

/-- INC rr (R93). -/
def incPairInstr : Pair → Instr
  | .bc => .inc_BC | .de => .inc_DE | .hl => .inc_HL | .sp => .inc_SP

/-- DEC rr (R93). -/
def decPairInstr : Pair → Instr
  | .bc => .dec_BC | .de => .dec_DE | .hl => .dec_HL | .sp => .dec_SP

/-- LD rr,n16 (R93). -/
def ldPairInstr (w : Word) : Pair → Instr
  | .bc => .ld_BC_n16 w | .de => .ld_DE_n16 w | .hl => .ld_HL_n16 w | .sp => .ld_SP_n16 w

/-- PUSH rr (R96). -/
def pushInstr : StackPair → Instr
  | .bc => .push_BC | .de => .push_DE | .hl => .push_HL | .af => .push_AF

/-- POP rr (R96). -/
def popInstr : StackPair → Instr
  | .bc => .pop_BC | .de => .pop_DE | .hl => .pop_HL | .af => .pop_AF

/-- The stores of A through a pair (R85, R93). -/
def ldToIndInstr : Indirect → Instr
  | .bc => .ld_atBC_A | .de => .ld_atDE_A | .hlInc => .ld_atHLinc_A | .hlDec => .ld_atHLdec_A

/-- The loads of A through a pair (R85, R93). -/
def ldFromIndInstr : Indirect → Instr
  | .bc => .ld_A_atBC | .de => .ld_A_atDE | .hlInc => .ld_A_atHLinc | .hlDec => .ld_A_atHLdec

/-- The rotates of A on the main page (R93). -/
def rotAInstr : RotA → Instr
  | .rlca => .rlca | .rrca => .rrca | .rla => .rla | .rra => .rra

/-- JP cc,a16 (R96). -/
def jpIfInstr (a : Word) : Cond → Instr
  | .nz => .jp_NZ_a16 a | .z => .jp_Z_a16 a | .nc => .jp_NC_a16 a | .c => .jp_C_a16 a

/-- JR cc,e8 (R93). -/
def jrIfInstr (e : Byte) : Cond → Instr
  | .nz => .jr_NZ_e8 e | .z => .jr_Z_e8 e | .nc => .jr_NC_e8 e | .c => .jr_C_e8 e

/-- CALL cc,a16 (R96). -/
def callIfInstr (a : Word) : Cond → Instr
  | .nz => .call_NZ_a16 a | .z => .call_Z_a16 a | .nc => .call_NC_a16 a | .c => .call_C_a16 a

/-- RET cc (R96). -/
def retIfInstr : Cond → Instr
  | .nz => .ret_NZ | .z => .ret_Z | .nc => .ret_NC | .c => .ret_C

/-- RST y*8 (R96). -/
def rstInstr : Oct → Instr
  | .o0 => .rst_00 | .o1 => .rst_08 | .o2 => .rst_10 | .o3 => .rst_18
  | .o4 => .rst_20 | .o5 => .rst_28 | .o6 => .rst_30 | .o7 => .rst_38

/-- The row of an unused opcode (R86). -/
def unusedInstr : Unused → Instr
  | .xD3 => .unused_D3 | .xDB => .unused_DB | .xDD => .unused_DD | .xE3 => .unused_E3
  | .xE4 => .unused_E4 | .xEB => .unused_EB | .xEC => .unused_EC | .xED => .unused_ED
  | .xF4 => .unused_F4 | .xFC => .unused_FC | .xFD => .unused_FD

/-- The constructor of Instr that stands for a form: its row of the opcode table (30_encoding.md R97, R98, R99). -/
def instrOf : Form → Instr
  | .alu op t => aluInstr op t
  | .aluImm op n => aluImmInstr n op
  | .inc t => incInstr t
  | .dec t => decInstr t
  | .daa => .daa
  | .cpl => .cpl
  | .scf => .scf
  | .ccf => .ccf
  | .addHL rr => addHLInstr rr
  | .incPair rr => incPairInstr rr
  | .decPair rr => decPairInstr rr
  | .addSP e => .add_SP_e8 e
  | .ldHLSP e => .ld_HL_SPe8 e
  | .rotA op => rotAInstr op
  | .shift op t => shiftInstr op t
  | .bit b t => bitInstr b t
  | .res b t => resInstr b t
  | .set b t => setInstr b t
  | .ldReg r t => ldRegInstr r t
  | .ldStore r => ldStoreInstr r
  | .ldImm t n => ldImmInstr n t
  | .ldPair rr w => ldPairInstr w rr
  | .ldToInd i => ldToIndInstr i
  | .ldFromInd i => ldFromIndInstr i
  | .ldhStore n => .ldh_atA8_A n
  | .ldhLoad n => .ldh_A_atA8 n
  | .ldCStore => .ld_atC_A
  | .ldCLoad => .ld_A_atC
  | .ldAbsStore a => .ld_atA16_A a
  | .ldAbsLoad a => .ld_A_atA16 a
  | .ldAbsSP a => .ld_atA16_SP a
  | .ldSPHL => .ld_SP_HL
  | .push rr => pushInstr rr
  | .pop rr => popInstr rr
  | .jp a => .jp_a16 a
  | .jpIf cc a => jpIfInstr a cc
  | .jpHL => .jp_HL
  | .jr e => .jr_e8 e
  | .jrIf cc e => jrIfInstr e cc
  | .call a => .call_a16 a
  | .callIf cc a => callIfInstr a cc
  | .ret => .ret
  | .retIf cc => retIfInstr cc
  | .reti => .reti
  | .rst y => rstInstr y
  | .nop => .nop
  | .halt => .halt
  | .stop => .stop
  | .di => .di
  | .ei => .ei
  | .unused u => unusedInstr u

/-! ## Field values -/

/-- Slot number `i` (30_encoding.md R83). -/
def slotOf : Nat → Slot
  | 0 => .reg .b
  | 1 => .reg .c
  | 2 => .reg .d
  | 3 => .reg .e
  | 4 => .reg .h
  | 5 => .reg .l
  | 6 => .atHL
  | _ => .reg .a

/-- Pair number `p` of table rp (R85). -/
def pairOf : Nat → Pair
  | 0 => .bc
  | 1 => .de
  | 2 => .hl
  | _ => .sp

/-- Pair number `p` of table rp2 (R85). -/
def stackPairOf : Nat → StackPair
  | 0 => .bc
  | 1 => .de
  | 2 => .hl
  | _ => .af

/-- The memory-indirect form number `p` (R85). -/
def indirectOf : Nat → Indirect
  | 0 => .bc
  | 1 => .de
  | 2 => .hlInc
  | _ => .hlDec

/-- Condition number `cc` (R88). -/
def condOf : Nat → Cond
  | 0 => .nz
  | 1 => .z
  | 2 => .nc
  | _ => .c

/-- The ALU operation `y` chooses (R95). -/
def aluOpOf : Nat → AluOp
  | 0 => .add
  | 1 => .adc
  | 2 => .sub
  | 3 => .sbc
  | 4 => .and
  | 5 => .xor
  | 6 => .or
  | _ => .cp

/-- The CB-page operation `k` chooses, for k in 0..7 (R87). -/
def shiftOpOf : Nat → ShiftOp
  | 0 => .rlc
  | 1 => .rrc
  | 2 => .rl
  | 3 => .rr
  | 4 => .sla
  | 5 => .sra
  | 6 => .swap
  | _ => .srl

/-- A 3-bit field value by name (R87, R92). -/
def octOf : Nat → Oct
  | 0 => .o0
  | 1 => .o1
  | 2 => .o2
  | 3 => .o3
  | 4 => .o4
  | 5 => .o5
  | 6 => .o6
  | _ => .o7

/-! The other direction: the field value that stands for each name (R83, R85, R87, R88, R95). -/

def Reg8.code : Reg8 → Nat
  | .b => 0 | .c => 1 | .d => 2 | .e => 3 | .h => 4 | .l => 5 | .a => 7

def Slot.code : Slot → Nat
  | .reg r => r.code
  | .atHL => 6

def Pair.code : Pair → Nat
  | .bc => 0 | .de => 1 | .hl => 2 | .sp => 3

def StackPair.code : StackPair → Nat
  | .bc => 0 | .de => 1 | .hl => 2 | .af => 3

def Indirect.code : Indirect → Nat
  | .bc => 0 | .de => 1 | .hlInc => 2 | .hlDec => 3

def Cond.code : Cond → Nat
  | .nz => 0 | .z => 1 | .nc => 2 | .c => 3

def AluOp.code : AluOp → Nat
  | .add => 0 | .adc => 1 | .sub => 2 | .sbc => 3 | .and => 4 | .xor => 5 | .or => 6 | .cp => 7

def ShiftOp.code : ShiftOp → Nat
  | .rlc => 0 | .rrc => 1 | .rl => 2 | .rr => 3 | .sla => 4 | .sra => 5 | .swap => 6 | .srl => 7

def Oct.code : Oct → Nat
  | .o0 => 0 | .o1 => 1 | .o2 => 2 | .o3 => 3 | .o4 => 4 | .o5 => 5 | .o6 => 6 | .o7 => 7

/-- The opcode byte of each unused main-page value (R86). -/
def Unused.opcode : Unused → Byte
  | .xD3 => 0xD3 | .xDB => 0xDB | .xDD => 0xDD | .xE3 => 0xE3 | .xE4 => 0xE4 | .xEB => 0xEB
  | .xEC => 0xEC | .xED => 0xED | .xF4 => 0xF4 | .xFC => 0xFC | .xFD => 0xFD

/-! ## The decoder -/

/-- What the opcode byte decides (R81, R91): the format, and the form once its operand bytes are known. -/
inductive Shape where
  /-- formats `none` and `illegal`: no byte follows -/
  | plain (form : Form)
  /-- formats `imm8` and `rel8`: one operand byte -/
  | imm8 (form : Byte → Form)
  /-- format `imm16`: a word, low byte first -/
  | imm16 (form : Word → Form)
  /-- format `cb`: the byte CB, then the CB-page opcode byte -/
  | cbPage
  /-- format `stop`: STOP_LEN bytes, the second one ignored -/
  | stop

/-- Quadrant x = 0 (R93). -/
def decodeX0 (y z : Nat) : Shape :=
  match z with
  | 0 =>
    match y with
    | 0 => .plain .nop
    | 1 => .imm16 .ldAbsSP
    | 2 => .stop
    | 3 => .imm8 .jr
    | _ => .imm8 (.jrIf (condOf (y - 4)))
  | 1 => if y % 2 = 0 then .imm16 (.ldPair (pairOf (y / 2))) else .plain (.addHL (pairOf (y / 2)))
  | 2 => if y % 2 = 0 then .plain (.ldToInd (indirectOf (y / 2))) else .plain (.ldFromInd (indirectOf (y / 2)))
  | 3 => if y % 2 = 0 then .plain (.incPair (pairOf (y / 2))) else .plain (.decPair (pairOf (y / 2)))
  | 4 => .plain (.inc (slotOf y))
  | 5 => .plain (.dec (slotOf y))
  | 6 => .imm8 (.ldImm (slotOf y))
  | _ =>
    match y with
    | 0 => .plain (.rotA .rlca)
    | 1 => .plain (.rotA .rrca)
    | 2 => .plain (.rotA .rla)
    | 3 => .plain (.rotA .rra)
    | 4 => .plain .daa
    | 5 => .plain .cpl
    | 6 => .plain .scf
    | _ => .plain .ccf

/-- Quadrant x = 1 (R94): the destination is y, the source z, and 0x76 is HALT. -/
def decodeX1 (y z : Nat) : Shape :=
  match slotOf y, slotOf z with
  | .reg dst, src => .plain (.ldReg dst src)
  | .atHL, .reg r => .plain (.ldStore r)
  | .atHL, .atHL => .plain .halt

/-- Quadrant x = 2 (R95). -/
def decodeX2 (y z : Nat) : Shape := .plain (.alu (aluOpOf y) (slotOf z))

/-- Quadrant x = 3 (R96), the unused values of R86 among it. -/
def decodeX3 (y z : Nat) : Shape :=
  match z with
  | 0 =>
    match y with
    | 4 => .imm8 .ldhStore
    | 5 => .imm8 .addSP
    | 6 => .imm8 .ldhLoad
    | 7 => .imm8 .ldHLSP
    | _ => .plain (.retIf (condOf y))
  | 1 =>
    match y with
    | 1 => .plain .ret
    | 3 => .plain .reti
    | 5 => .plain .jpHL
    | 7 => .plain .ldSPHL
    | _ => .plain (.pop (stackPairOf (y / 2)))
  | 2 =>
    match y with
    | 4 => .plain .ldCStore
    | 5 => .imm16 .ldAbsStore
    | 6 => .plain .ldCLoad
    | 7 => .imm16 .ldAbsLoad
    | _ => .imm16 (.jpIf (condOf y))
  | 3 =>
    match y with
    | 0 => .imm16 .jp
    | 1 => .cbPage
    | 2 => .plain (.unused .xD3)
    | 3 => .plain (.unused .xDB)
    | 4 => .plain (.unused .xE3)
    | 5 => .plain (.unused .xEB)
    | 6 => .plain .di
    | _ => .plain .ei
  | 4 =>
    match y with
    | 4 => .plain (.unused .xE4)
    | 5 => .plain (.unused .xEC)
    | 6 => .plain (.unused .xF4)
    | 7 => .plain (.unused .xFC)
    | _ => .imm16 (.callIf (condOf y))
  | 5 =>
    match y with
    | 1 => .imm16 .call
    | 3 => .plain (.unused .xDD)
    | 5 => .plain (.unused .xED)
    | 7 => .plain (.unused .xFD)
    | _ => .plain (.push (stackPairOf (y / 2)))
  | 6 => .imm8 (.aluImm (aluOpOf y))
  | _ => .plain (.rst (octOf y))

/-- The main page: x = op[7:6], y = op[5:3], z = op[2:0] (R82). -/
def decodeMain (op : Byte) : Shape :=
  match op.toNat / 64 with
  | 0 => decodeX0 (op.toNat / 8 % 8) (op.toNat % 8)
  | 1 => decodeX1 (op.toNat / 8 % 8) (op.toNat % 8)
  | 2 => decodeX2 (op.toNat / 8 % 8) (op.toNat % 8)
  | _ => decodeX3 (op.toNat / 8 % 8) (op.toNat % 8)

/-- The CB page: the high five bits choose the operation, the low three the slot (R87). -/
def decodeCB (op2 : Byte) : Form :=
  match op2.toNat / 64 with
  | 0 => .shift (shiftOpOf (op2.toNat / 8 % 8)) (slotOf (op2.toNat % 8))
  | 1 => .bit (octOf (op2.toNat / 8 % 8)) (slotOf (op2.toNat % 8))
  | 2 => .res (octOf (op2.toNat / 8 % 8)) (slotOf (op2.toNat % 8))
  | _ => .set (octOf (op2.toNat / 8 % 8)) (slotOf (op2.toNat % 8))

/-- The length in bytes of an instruction with this first byte (R80, R81, R91). -/
def instrLength (sl : StopLen) (op : Byte) : Nat :=
  match decodeMain op with
  | .plain _ => 1
  | .imm8 _ => 2
  | .imm16 _ => 3
  | .cbPage => 2
  | .stop =>
    match sl with
    | .one => 1
    | .two => 2

/-- Why a list of bytes is not the start of an instruction. Every first byte selects an instruction or an unused opcode
(R91), so the one reason is that bytes are missing. -/
inductive DecodeError where
  | truncated
  deriving DecidableEq, Repr

/-- The instruction at the head of a list of bytes, with the bytes after it. An unused opcode is decoded to its own row
and is 1 byte long (R86). -/
def decode (sl : StopLen) : List Byte → Except DecodeError (Instr × List Byte)
  | [] => .error .truncated
  | op :: rest =>
    match decodeMain op, rest with
    | .plain φ, _ => .ok (instrOf φ, rest)
    | .imm8 mk, n :: rest' => .ok (instrOf (mk n), rest')
    | .imm16 mk, l :: h :: rest' => .ok (instrOf (mk (join h l)), rest')
    | .cbPage, op2 :: rest' => .ok (instrOf (decodeCB op2), rest')
    | .stop, _ =>
      match sl, rest with
      | .one, _ => .ok (.stop, rest)
      | .two, _ :: rest' => .ok (.stop, rest')
      | .two, [] => .error .truncated
    | .imm8 _, [] => .error .truncated
    | .imm16 _, [] => .error .truncated
    | .imm16 _, [_] => .error .truncated
    | .cbPage, [] => .error .truncated

/-! ## The encoder -/

/-- The bytes of STOP (45_system.md R292). -/
def stopBytes : StopLen → List Byte
  | .one => [0x10]
  | .two => [0x10, 0x00]

/-- The bytes of an instruction, opcode by opcode as the opcode table lists them (30_encoding.md R97, R98, R99), with
immediates low byte first (R92, 20_memory.md R62). The ignored byte of a two-byte STOP is written as 00 (D21, log 8). -/
def encode (sl : StopLen) : Instr → List Byte
  | .nop => [0x00]
  | .ld_BC_n16 w => [0x01, lo w, hi w]
  | .ld_atBC_A => [0x02]
  | .inc_BC => [0x03]
  | .inc_B => [0x04]
  | .dec_B => [0x05]
  | .ld_B_n8 n => [0x06, n]
  | .rlca => [0x07]
  | .ld_atA16_SP a => [0x08, lo a, hi a]
  | .add_HL_BC => [0x09]
  | .ld_A_atBC => [0x0A]
  | .dec_BC => [0x0B]
  | .inc_C => [0x0C]
  | .dec_C => [0x0D]
  | .ld_C_n8 n => [0x0E, n]
  | .rrca => [0x0F]
  | .stop => stopBytes sl
  | .ld_DE_n16 w => [0x11, lo w, hi w]
  | .ld_atDE_A => [0x12]
  | .inc_DE => [0x13]
  | .inc_D => [0x14]
  | .dec_D => [0x15]
  | .ld_D_n8 n => [0x16, n]
  | .rla => [0x17]
  | .jr_e8 e => [0x18, e]
  | .add_HL_DE => [0x19]
  | .ld_A_atDE => [0x1A]
  | .dec_DE => [0x1B]
  | .inc_E => [0x1C]
  | .dec_E => [0x1D]
  | .ld_E_n8 n => [0x1E, n]
  | .rra => [0x1F]
  | .jr_NZ_e8 e => [0x20, e]
  | .ld_HL_n16 w => [0x21, lo w, hi w]
  | .ld_atHLinc_A => [0x22]
  | .inc_HL => [0x23]
  | .inc_H => [0x24]
  | .dec_H => [0x25]
  | .ld_H_n8 n => [0x26, n]
  | .daa => [0x27]
  | .jr_Z_e8 e => [0x28, e]
  | .add_HL_HL => [0x29]
  | .ld_A_atHLinc => [0x2A]
  | .dec_HL => [0x2B]
  | .inc_L => [0x2C]
  | .dec_L => [0x2D]
  | .ld_L_n8 n => [0x2E, n]
  | .cpl => [0x2F]
  | .jr_NC_e8 e => [0x30, e]
  | .ld_SP_n16 w => [0x31, lo w, hi w]
  | .ld_atHLdec_A => [0x32]
  | .inc_SP => [0x33]
  | .inc_atHL => [0x34]
  | .dec_atHL => [0x35]
  | .ld_atHL_n8 n => [0x36, n]
  | .scf => [0x37]
  | .jr_C_e8 e => [0x38, e]
  | .add_HL_SP => [0x39]
  | .ld_A_atHLdec => [0x3A]
  | .dec_SP => [0x3B]
  | .inc_A => [0x3C]
  | .dec_A => [0x3D]
  | .ld_A_n8 n => [0x3E, n]
  | .ccf => [0x3F]
  | .ld_B_B => [0x40]
  | .ld_B_C => [0x41]
  | .ld_B_D => [0x42]
  | .ld_B_E => [0x43]
  | .ld_B_H => [0x44]
  | .ld_B_L => [0x45]
  | .ld_B_atHL => [0x46]
  | .ld_B_A => [0x47]
  | .ld_C_B => [0x48]
  | .ld_C_C => [0x49]
  | .ld_C_D => [0x4A]
  | .ld_C_E => [0x4B]
  | .ld_C_H => [0x4C]
  | .ld_C_L => [0x4D]
  | .ld_C_atHL => [0x4E]
  | .ld_C_A => [0x4F]
  | .ld_D_B => [0x50]
  | .ld_D_C => [0x51]
  | .ld_D_D => [0x52]
  | .ld_D_E => [0x53]
  | .ld_D_H => [0x54]
  | .ld_D_L => [0x55]
  | .ld_D_atHL => [0x56]
  | .ld_D_A => [0x57]
  | .ld_E_B => [0x58]
  | .ld_E_C => [0x59]
  | .ld_E_D => [0x5A]
  | .ld_E_E => [0x5B]
  | .ld_E_H => [0x5C]
  | .ld_E_L => [0x5D]
  | .ld_E_atHL => [0x5E]
  | .ld_E_A => [0x5F]
  | .ld_H_B => [0x60]
  | .ld_H_C => [0x61]
  | .ld_H_D => [0x62]
  | .ld_H_E => [0x63]
  | .ld_H_H => [0x64]
  | .ld_H_L => [0x65]
  | .ld_H_atHL => [0x66]
  | .ld_H_A => [0x67]
  | .ld_L_B => [0x68]
  | .ld_L_C => [0x69]
  | .ld_L_D => [0x6A]
  | .ld_L_E => [0x6B]
  | .ld_L_H => [0x6C]
  | .ld_L_L => [0x6D]
  | .ld_L_atHL => [0x6E]
  | .ld_L_A => [0x6F]
  | .ld_atHL_B => [0x70]
  | .ld_atHL_C => [0x71]
  | .ld_atHL_D => [0x72]
  | .ld_atHL_E => [0x73]
  | .ld_atHL_H => [0x74]
  | .ld_atHL_L => [0x75]
  | .halt => [0x76]
  | .ld_atHL_A => [0x77]
  | .ld_A_B => [0x78]
  | .ld_A_C => [0x79]
  | .ld_A_D => [0x7A]
  | .ld_A_E => [0x7B]
  | .ld_A_H => [0x7C]
  | .ld_A_L => [0x7D]
  | .ld_A_atHL => [0x7E]
  | .ld_A_A => [0x7F]
  | .add_A_B => [0x80]
  | .add_A_C => [0x81]
  | .add_A_D => [0x82]
  | .add_A_E => [0x83]
  | .add_A_H => [0x84]
  | .add_A_L => [0x85]
  | .add_A_atHL => [0x86]
  | .add_A_A => [0x87]
  | .adc_A_B => [0x88]
  | .adc_A_C => [0x89]
  | .adc_A_D => [0x8A]
  | .adc_A_E => [0x8B]
  | .adc_A_H => [0x8C]
  | .adc_A_L => [0x8D]
  | .adc_A_atHL => [0x8E]
  | .adc_A_A => [0x8F]
  | .sub_B => [0x90]
  | .sub_C => [0x91]
  | .sub_D => [0x92]
  | .sub_E => [0x93]
  | .sub_H => [0x94]
  | .sub_L => [0x95]
  | .sub_atHL => [0x96]
  | .sub_A => [0x97]
  | .sbc_A_B => [0x98]
  | .sbc_A_C => [0x99]
  | .sbc_A_D => [0x9A]
  | .sbc_A_E => [0x9B]
  | .sbc_A_H => [0x9C]
  | .sbc_A_L => [0x9D]
  | .sbc_A_atHL => [0x9E]
  | .sbc_A_A => [0x9F]
  | .and_B => [0xA0]
  | .and_C => [0xA1]
  | .and_D => [0xA2]
  | .and_E => [0xA3]
  | .and_H => [0xA4]
  | .and_L => [0xA5]
  | .and_atHL => [0xA6]
  | .and_A => [0xA7]
  | .xor_B => [0xA8]
  | .xor_C => [0xA9]
  | .xor_D => [0xAA]
  | .xor_E => [0xAB]
  | .xor_H => [0xAC]
  | .xor_L => [0xAD]
  | .xor_atHL => [0xAE]
  | .xor_A => [0xAF]
  | .or_B => [0xB0]
  | .or_C => [0xB1]
  | .or_D => [0xB2]
  | .or_E => [0xB3]
  | .or_H => [0xB4]
  | .or_L => [0xB5]
  | .or_atHL => [0xB6]
  | .or_A => [0xB7]
  | .cp_B => [0xB8]
  | .cp_C => [0xB9]
  | .cp_D => [0xBA]
  | .cp_E => [0xBB]
  | .cp_H => [0xBC]
  | .cp_L => [0xBD]
  | .cp_atHL => [0xBE]
  | .cp_A => [0xBF]
  | .ret_NZ => [0xC0]
  | .pop_BC => [0xC1]
  | .jp_NZ_a16 a => [0xC2, lo a, hi a]
  | .jp_a16 a => [0xC3, lo a, hi a]
  | .call_NZ_a16 a => [0xC4, lo a, hi a]
  | .push_BC => [0xC5]
  | .add_A_n8 n => [0xC6, n]
  | .rst_00 => [0xC7]
  | .ret_Z => [0xC8]
  | .ret => [0xC9]
  | .jp_Z_a16 a => [0xCA, lo a, hi a]
  | .call_Z_a16 a => [0xCC, lo a, hi a]
  | .call_a16 a => [0xCD, lo a, hi a]
  | .adc_A_n8 n => [0xCE, n]
  | .rst_08 => [0xCF]
  | .ret_NC => [0xD0]
  | .pop_DE => [0xD1]
  | .jp_NC_a16 a => [0xD2, lo a, hi a]
  | .unused_D3 => [0xD3]
  | .call_NC_a16 a => [0xD4, lo a, hi a]
  | .push_DE => [0xD5]
  | .sub_n8 n => [0xD6, n]
  | .rst_10 => [0xD7]
  | .ret_C => [0xD8]
  | .reti => [0xD9]
  | .jp_C_a16 a => [0xDA, lo a, hi a]
  | .unused_DB => [0xDB]
  | .call_C_a16 a => [0xDC, lo a, hi a]
  | .unused_DD => [0xDD]
  | .sbc_A_n8 n => [0xDE, n]
  | .rst_18 => [0xDF]
  | .ldh_atA8_A n => [0xE0, n]
  | .pop_HL => [0xE1]
  | .ld_atC_A => [0xE2]
  | .unused_E3 => [0xE3]
  | .unused_E4 => [0xE4]
  | .push_HL => [0xE5]
  | .and_n8 n => [0xE6, n]
  | .rst_20 => [0xE7]
  | .add_SP_e8 e => [0xE8, e]
  | .jp_HL => [0xE9]
  | .ld_atA16_A a => [0xEA, lo a, hi a]
  | .unused_EB => [0xEB]
  | .unused_EC => [0xEC]
  | .unused_ED => [0xED]
  | .xor_n8 n => [0xEE, n]
  | .rst_28 => [0xEF]
  | .ldh_A_atA8 n => [0xF0, n]
  | .pop_AF => [0xF1]
  | .ld_A_atC => [0xF2]
  | .di => [0xF3]
  | .unused_F4 => [0xF4]
  | .push_AF => [0xF5]
  | .or_n8 n => [0xF6, n]
  | .rst_30 => [0xF7]
  | .ld_HL_SPe8 e => [0xF8, e]
  | .ld_SP_HL => [0xF9]
  | .ld_A_atA16 a => [0xFA, lo a, hi a]
  | .ei => [0xFB]
  | .unused_FC => [0xFC]
  | .unused_FD => [0xFD]
  | .cp_n8 n => [0xFE, n]
  | .rst_38 => [0xFF]
  | .rlc_B => [0xCB, 0x00]
  | .rlc_C => [0xCB, 0x01]
  | .rlc_D => [0xCB, 0x02]
  | .rlc_E => [0xCB, 0x03]
  | .rlc_H => [0xCB, 0x04]
  | .rlc_L => [0xCB, 0x05]
  | .rlc_atHL => [0xCB, 0x06]
  | .rlc_A => [0xCB, 0x07]
  | .rrc_B => [0xCB, 0x08]
  | .rrc_C => [0xCB, 0x09]
  | .rrc_D => [0xCB, 0x0A]
  | .rrc_E => [0xCB, 0x0B]
  | .rrc_H => [0xCB, 0x0C]
  | .rrc_L => [0xCB, 0x0D]
  | .rrc_atHL => [0xCB, 0x0E]
  | .rrc_A => [0xCB, 0x0F]
  | .rl_B => [0xCB, 0x10]
  | .rl_C => [0xCB, 0x11]
  | .rl_D => [0xCB, 0x12]
  | .rl_E => [0xCB, 0x13]
  | .rl_H => [0xCB, 0x14]
  | .rl_L => [0xCB, 0x15]
  | .rl_atHL => [0xCB, 0x16]
  | .rl_A => [0xCB, 0x17]
  | .rr_B => [0xCB, 0x18]
  | .rr_C => [0xCB, 0x19]
  | .rr_D => [0xCB, 0x1A]
  | .rr_E => [0xCB, 0x1B]
  | .rr_H => [0xCB, 0x1C]
  | .rr_L => [0xCB, 0x1D]
  | .rr_atHL => [0xCB, 0x1E]
  | .rr_A => [0xCB, 0x1F]
  | .sla_B => [0xCB, 0x20]
  | .sla_C => [0xCB, 0x21]
  | .sla_D => [0xCB, 0x22]
  | .sla_E => [0xCB, 0x23]
  | .sla_H => [0xCB, 0x24]
  | .sla_L => [0xCB, 0x25]
  | .sla_atHL => [0xCB, 0x26]
  | .sla_A => [0xCB, 0x27]
  | .sra_B => [0xCB, 0x28]
  | .sra_C => [0xCB, 0x29]
  | .sra_D => [0xCB, 0x2A]
  | .sra_E => [0xCB, 0x2B]
  | .sra_H => [0xCB, 0x2C]
  | .sra_L => [0xCB, 0x2D]
  | .sra_atHL => [0xCB, 0x2E]
  | .sra_A => [0xCB, 0x2F]
  | .swap_B => [0xCB, 0x30]
  | .swap_C => [0xCB, 0x31]
  | .swap_D => [0xCB, 0x32]
  | .swap_E => [0xCB, 0x33]
  | .swap_H => [0xCB, 0x34]
  | .swap_L => [0xCB, 0x35]
  | .swap_atHL => [0xCB, 0x36]
  | .swap_A => [0xCB, 0x37]
  | .srl_B => [0xCB, 0x38]
  | .srl_C => [0xCB, 0x39]
  | .srl_D => [0xCB, 0x3A]
  | .srl_E => [0xCB, 0x3B]
  | .srl_H => [0xCB, 0x3C]
  | .srl_L => [0xCB, 0x3D]
  | .srl_atHL => [0xCB, 0x3E]
  | .srl_A => [0xCB, 0x3F]
  | .bit_0_B => [0xCB, 0x40]
  | .bit_0_C => [0xCB, 0x41]
  | .bit_0_D => [0xCB, 0x42]
  | .bit_0_E => [0xCB, 0x43]
  | .bit_0_H => [0xCB, 0x44]
  | .bit_0_L => [0xCB, 0x45]
  | .bit_0_atHL => [0xCB, 0x46]
  | .bit_0_A => [0xCB, 0x47]
  | .bit_1_B => [0xCB, 0x48]
  | .bit_1_C => [0xCB, 0x49]
  | .bit_1_D => [0xCB, 0x4A]
  | .bit_1_E => [0xCB, 0x4B]
  | .bit_1_H => [0xCB, 0x4C]
  | .bit_1_L => [0xCB, 0x4D]
  | .bit_1_atHL => [0xCB, 0x4E]
  | .bit_1_A => [0xCB, 0x4F]
  | .bit_2_B => [0xCB, 0x50]
  | .bit_2_C => [0xCB, 0x51]
  | .bit_2_D => [0xCB, 0x52]
  | .bit_2_E => [0xCB, 0x53]
  | .bit_2_H => [0xCB, 0x54]
  | .bit_2_L => [0xCB, 0x55]
  | .bit_2_atHL => [0xCB, 0x56]
  | .bit_2_A => [0xCB, 0x57]
  | .bit_3_B => [0xCB, 0x58]
  | .bit_3_C => [0xCB, 0x59]
  | .bit_3_D => [0xCB, 0x5A]
  | .bit_3_E => [0xCB, 0x5B]
  | .bit_3_H => [0xCB, 0x5C]
  | .bit_3_L => [0xCB, 0x5D]
  | .bit_3_atHL => [0xCB, 0x5E]
  | .bit_3_A => [0xCB, 0x5F]
  | .bit_4_B => [0xCB, 0x60]
  | .bit_4_C => [0xCB, 0x61]
  | .bit_4_D => [0xCB, 0x62]
  | .bit_4_E => [0xCB, 0x63]
  | .bit_4_H => [0xCB, 0x64]
  | .bit_4_L => [0xCB, 0x65]
  | .bit_4_atHL => [0xCB, 0x66]
  | .bit_4_A => [0xCB, 0x67]
  | .bit_5_B => [0xCB, 0x68]
  | .bit_5_C => [0xCB, 0x69]
  | .bit_5_D => [0xCB, 0x6A]
  | .bit_5_E => [0xCB, 0x6B]
  | .bit_5_H => [0xCB, 0x6C]
  | .bit_5_L => [0xCB, 0x6D]
  | .bit_5_atHL => [0xCB, 0x6E]
  | .bit_5_A => [0xCB, 0x6F]
  | .bit_6_B => [0xCB, 0x70]
  | .bit_6_C => [0xCB, 0x71]
  | .bit_6_D => [0xCB, 0x72]
  | .bit_6_E => [0xCB, 0x73]
  | .bit_6_H => [0xCB, 0x74]
  | .bit_6_L => [0xCB, 0x75]
  | .bit_6_atHL => [0xCB, 0x76]
  | .bit_6_A => [0xCB, 0x77]
  | .bit_7_B => [0xCB, 0x78]
  | .bit_7_C => [0xCB, 0x79]
  | .bit_7_D => [0xCB, 0x7A]
  | .bit_7_E => [0xCB, 0x7B]
  | .bit_7_H => [0xCB, 0x7C]
  | .bit_7_L => [0xCB, 0x7D]
  | .bit_7_atHL => [0xCB, 0x7E]
  | .bit_7_A => [0xCB, 0x7F]
  | .res_0_B => [0xCB, 0x80]
  | .res_0_C => [0xCB, 0x81]
  | .res_0_D => [0xCB, 0x82]
  | .res_0_E => [0xCB, 0x83]
  | .res_0_H => [0xCB, 0x84]
  | .res_0_L => [0xCB, 0x85]
  | .res_0_atHL => [0xCB, 0x86]
  | .res_0_A => [0xCB, 0x87]
  | .res_1_B => [0xCB, 0x88]
  | .res_1_C => [0xCB, 0x89]
  | .res_1_D => [0xCB, 0x8A]
  | .res_1_E => [0xCB, 0x8B]
  | .res_1_H => [0xCB, 0x8C]
  | .res_1_L => [0xCB, 0x8D]
  | .res_1_atHL => [0xCB, 0x8E]
  | .res_1_A => [0xCB, 0x8F]
  | .res_2_B => [0xCB, 0x90]
  | .res_2_C => [0xCB, 0x91]
  | .res_2_D => [0xCB, 0x92]
  | .res_2_E => [0xCB, 0x93]
  | .res_2_H => [0xCB, 0x94]
  | .res_2_L => [0xCB, 0x95]
  | .res_2_atHL => [0xCB, 0x96]
  | .res_2_A => [0xCB, 0x97]
  | .res_3_B => [0xCB, 0x98]
  | .res_3_C => [0xCB, 0x99]
  | .res_3_D => [0xCB, 0x9A]
  | .res_3_E => [0xCB, 0x9B]
  | .res_3_H => [0xCB, 0x9C]
  | .res_3_L => [0xCB, 0x9D]
  | .res_3_atHL => [0xCB, 0x9E]
  | .res_3_A => [0xCB, 0x9F]
  | .res_4_B => [0xCB, 0xA0]
  | .res_4_C => [0xCB, 0xA1]
  | .res_4_D => [0xCB, 0xA2]
  | .res_4_E => [0xCB, 0xA3]
  | .res_4_H => [0xCB, 0xA4]
  | .res_4_L => [0xCB, 0xA5]
  | .res_4_atHL => [0xCB, 0xA6]
  | .res_4_A => [0xCB, 0xA7]
  | .res_5_B => [0xCB, 0xA8]
  | .res_5_C => [0xCB, 0xA9]
  | .res_5_D => [0xCB, 0xAA]
  | .res_5_E => [0xCB, 0xAB]
  | .res_5_H => [0xCB, 0xAC]
  | .res_5_L => [0xCB, 0xAD]
  | .res_5_atHL => [0xCB, 0xAE]
  | .res_5_A => [0xCB, 0xAF]
  | .res_6_B => [0xCB, 0xB0]
  | .res_6_C => [0xCB, 0xB1]
  | .res_6_D => [0xCB, 0xB2]
  | .res_6_E => [0xCB, 0xB3]
  | .res_6_H => [0xCB, 0xB4]
  | .res_6_L => [0xCB, 0xB5]
  | .res_6_atHL => [0xCB, 0xB6]
  | .res_6_A => [0xCB, 0xB7]
  | .res_7_B => [0xCB, 0xB8]
  | .res_7_C => [0xCB, 0xB9]
  | .res_7_D => [0xCB, 0xBA]
  | .res_7_E => [0xCB, 0xBB]
  | .res_7_H => [0xCB, 0xBC]
  | .res_7_L => [0xCB, 0xBD]
  | .res_7_atHL => [0xCB, 0xBE]
  | .res_7_A => [0xCB, 0xBF]
  | .set_0_B => [0xCB, 0xC0]
  | .set_0_C => [0xCB, 0xC1]
  | .set_0_D => [0xCB, 0xC2]
  | .set_0_E => [0xCB, 0xC3]
  | .set_0_H => [0xCB, 0xC4]
  | .set_0_L => [0xCB, 0xC5]
  | .set_0_atHL => [0xCB, 0xC6]
  | .set_0_A => [0xCB, 0xC7]
  | .set_1_B => [0xCB, 0xC8]
  | .set_1_C => [0xCB, 0xC9]
  | .set_1_D => [0xCB, 0xCA]
  | .set_1_E => [0xCB, 0xCB]
  | .set_1_H => [0xCB, 0xCC]
  | .set_1_L => [0xCB, 0xCD]
  | .set_1_atHL => [0xCB, 0xCE]
  | .set_1_A => [0xCB, 0xCF]
  | .set_2_B => [0xCB, 0xD0]
  | .set_2_C => [0xCB, 0xD1]
  | .set_2_D => [0xCB, 0xD2]
  | .set_2_E => [0xCB, 0xD3]
  | .set_2_H => [0xCB, 0xD4]
  | .set_2_L => [0xCB, 0xD5]
  | .set_2_atHL => [0xCB, 0xD6]
  | .set_2_A => [0xCB, 0xD7]
  | .set_3_B => [0xCB, 0xD8]
  | .set_3_C => [0xCB, 0xD9]
  | .set_3_D => [0xCB, 0xDA]
  | .set_3_E => [0xCB, 0xDB]
  | .set_3_H => [0xCB, 0xDC]
  | .set_3_L => [0xCB, 0xDD]
  | .set_3_atHL => [0xCB, 0xDE]
  | .set_3_A => [0xCB, 0xDF]
  | .set_4_B => [0xCB, 0xE0]
  | .set_4_C => [0xCB, 0xE1]
  | .set_4_D => [0xCB, 0xE2]
  | .set_4_E => [0xCB, 0xE3]
  | .set_4_H => [0xCB, 0xE4]
  | .set_4_L => [0xCB, 0xE5]
  | .set_4_atHL => [0xCB, 0xE6]
  | .set_4_A => [0xCB, 0xE7]
  | .set_5_B => [0xCB, 0xE8]
  | .set_5_C => [0xCB, 0xE9]
  | .set_5_D => [0xCB, 0xEA]
  | .set_5_E => [0xCB, 0xEB]
  | .set_5_H => [0xCB, 0xEC]
  | .set_5_L => [0xCB, 0xED]
  | .set_5_atHL => [0xCB, 0xEE]
  | .set_5_A => [0xCB, 0xEF]
  | .set_6_B => [0xCB, 0xF0]
  | .set_6_C => [0xCB, 0xF1]
  | .set_6_D => [0xCB, 0xF2]
  | .set_6_E => [0xCB, 0xF3]
  | .set_6_H => [0xCB, 0xF4]
  | .set_6_L => [0xCB, 0xF5]
  | .set_6_atHL => [0xCB, 0xF6]
  | .set_6_A => [0xCB, 0xF7]
  | .set_7_B => [0xCB, 0xF8]
  | .set_7_C => [0xCB, 0xF9]
  | .set_7_D => [0xCB, 0xFA]
  | .set_7_E => [0xCB, 0xFB]
  | .set_7_H => [0xCB, 0xFC]
  | .set_7_L => [0xCB, 0xFD]
  | .set_7_atHL => [0xCB, 0xFE]
  | .set_7_A => [0xCB, 0xFF]

/-! ## The opcode table's numbering of an instruction's bits -/

/-- The three bytes, the longest instruction, of the instruction the opcode table numbers as `w` with `nbits` bits. A
main-page row is numbered by its first byte, and a later byte's bits count on from it; a CB-page row is numbered by the
16-bit value (CB << 8) | op2 (30_encoding.md R99, log 6). Bits above `nbits` are 0. -/
def tableBytes (nbits w : Nat) : List Byte :=
  let v := w % 2 ^ nbits
  if nbits = 16 ∧ v / 256 = 0xCB then [0xCB, BitVec.ofNat 8 v, 0]
  else [BitVec.ofNat 8 v, BitVec.ofNat 8 (v / 256), BitVec.ofNat 8 (v / 65536)]

/-- The instruction the decoder reads from the instruction the opcode table numbers as `w`. The three bytes are enough
for either STOP_LEN, and its value does not change which instruction they are. -/
def decodeTableWord (nbits w : Nat) : Option Instr :=
  match decode .two (tableBytes nbits w) with
  | .ok (i, _) => some i
  | .error _ => none

end Sys2Proof
end

