-- ==== Sys2Proof/Machine/State.lean ====
section
/-! DEFINITION. The state of the machine as plain data, the reasons a step stops, and the state after reset
(10_state.md, 20_memory.md R50 to R52, 60_exceptions.md R310, 70_reset_and_hazards.md R340 to R342). -/

namespace Sys2Proof.Machine

/-- The faults (60_exceptions.md R310). A step raises only the first three; the last two are raised by `map`, outside
any step (R323). A faulting step changes nothing (R311), and the outcome of one holds no state. All are safe: the spec
makes each of them end the run (R312). -/
inductive Fault where
  /-- A flat store's read or write of address `a` outside `[0, N)` (20_memory.md R51). Safe. -/
  | invalidAddress (a : Nat)
  /-- A router's access to address `a` that no local range contains (20_memory.md R55, R56). Safe. -/
  | unmappedAddress (a : Nat)
  /-- One of the 11 unused opcodes (45_system.md R295). Safe. -/
  | unknownOpcode (op : Byte)
  /-- `map` refuses a local range that overlaps an existing one (20_memory.md R54). Safe. -/
  | overlappingMap (loc : AddrRange)
  /-- `map` refuses two ranges of different sizes, or an empty or reversed range (20_memory.md R54). Safe. -/
  | mismatchedRangeSize (target loc : AddrRange)
  deriving DecidableEq, Repr

/-- Why the model gives a step no outcome of the machine's. -/
inductive Refusal where
  /-- An instruction with no meaning yet; raised by an arm of exec only. Safe. -/
  | notModelled (mnemonic : String)
  /-- An access with no memory attached: the spec excludes the case (60_exceptions.md R324, D18). Raised by every memory
  access of a machine whose `attached` is none. Safe. -/
  | noMemory
  /-- An access to a flat store that was never built: a mapping names store number `k` and there is none, a
  configuration no host can make (log 3, log 4). Raised by the access. Safe. -/
  | noStore (k : Nat)
  deriving DecidableEq, Repr

/-- What an operation answers: a value, a fault or a refusal. -/
abbrev Out (α : Type) := Host.Outcome α Fault Refusal

/-- The bytes of a flat store: address and byte pairs, addresses strictly rising, no entry equal to what an unlisted
address reads as (`Memory.wf` in Machine/Memory.lean). -/
abbrev Memory := List Host.Cell

/-- A flat store: "A value owning N bytes" (20_memory.md R50). -/
structure FlatStore where
  size : Nat
  cells : Memory
  deriving DecidableEq, Repr

/-- The state of the core and its memory. The pairs AF, BC, DE and HL are views (10_state.md R21), and the run state is
derived from `halted` and `stopped` (45_system.md R296). -/
structure State where
  /-- accumulator (10_state.md R20) -/
  a : Byte
  /-- flags: Z, N, H, C in bits 7 to 4 (R24), bits 3:0 unused (R23) -/
  f : Byte
  b : Byte
  c : Byte
  d : Byte
  e : Byte
  h : Byte
  l : Byte
  /-- stack pointer (R27) -/
  sp : Word
  /-- program counter (R28) -/
  pc : Word
  /-- interrupt master enable (R29) -/
  ime : Bool
  /-- set by HALT, cleared only by reset (R29) -/
  halted : Bool
  /-- set by STOP, cleared only by reset (R29) -/
  stopped : Bool
  /-- the flat stores the host has built, by number (20_memory.md R50, R52) -/
  stores : List FlatStore
  /-- the attached memory, none before `attach` (R58, 70_reset_and_hazards.md R341) -/
  attached : Option Port
  /-- F_LOW_POLICY and STOP_LEN (00_scope.md R6); no step writes them -/
  params : Params
  deriving DecidableEq, Repr

/-- The registers, flags and state bits after reset (70_reset_and_hazards.md R340), over a given memory and given
parameters, which reset does not touch (R342). -/
def State.resetOver (stores : List FlatStore) (attached : Option Port) (params : Params) : State where
  a := 0
  f := 0
  b := 0
  c := 0
  d := 0
  e := 0
  h := 0
  l := 0
  sp := 0
  pc := 0
  ime := true
  halted := false
  stopped := false
  stores := stores
  attached := attached
  params := params

/-- The machine right after reset. DESIGN CHOICE: the attached memory is one flat store of 65536 bytes with nothing
listed (log 2), F_LOW_POLICY is Preserve and STOP_LEN is 2 (log 1); unsafe, the spec leaves all three to the host. -/
def State.reset : State :=
  State.resetOver [{ size := 65536, cells := [] }] (some (.flat 0)) { fLow := .preserve, stopLen := .two }

end Sys2Proof.Machine
end

