-- ==== Sys2Proof/WellFormed.lean ====
section
/-! DEFINITION. Well-formedness of what a run is given. Every operand of an instruction has its width in its type, so
every term of Instr is well formed and there is nothing to check there. What can be ill formed is the memory
configuration: the entries of a router, which `map` accepted only if their ranges pass 20_memory.md R54, and the stores
an entry names. -/

namespace Sys2Proof

/-- A range that is neither empty nor reversed (20_memory.md R54). -/
def AddrRange.wf (r : AddrRange) : Bool := decide (r.lo ≤ r.hi)

/-- Two ranges of the same size (R54: `thi - tlo = lhi - llo`, here without subtraction). -/
def AddrRange.sameSize (t l : AddrRange) : Bool := decide (t.hi + l.lo = l.hi + t.lo)

/-- Two ranges share an address: the overlap test of R54. -/
def AddrRange.overlaps (l l' : AddrRange) : Bool := decide (l.lo ≤ l'.hi) && decide (l'.lo ≤ l.hi)

/-- An address lies in an inclusive range (R53, R55). -/
def AddrRange.contains (r : AddrRange) (a : Nat) : Bool := decide (r.lo ≤ a) && decide (a ≤ r.hi)

/-- No entry of the list has a local range that overlaps `l` (R54). -/
def MapList.clearOf (l : AddrRange) : MapList → Bool
  | .nil => true
  | .cons _ _ l' rest => !(l.overlaps l') && rest.clearOf l

mutual
/-- A memory configuration that `map` accepted entirely (R54, 60_exceptions.md R323), over `n` flat stores. -/
def Port.wf (n : Nat) : Port → Bool
  | .flat k => decide (k < n)
  | .router entries => entries.wf n
/-- Every entry of a router has two ranges of one size, neither empty, a local range clear of the others, and a
well-formed backing. -/
def MapList.wf (n : Nat) : MapList → Bool
  | .nil => true
  | .cons backing t l rest => t.wf && l.wf && t.sameSize l && rest.clearOf l && backing.wf n && rest.wf n
end

end Sys2Proof
end

