-- ==== Sys2Proof/Machine/Memory.lean ====
section
/-! DEFINITION. The bytes of a flat store in canonical form, the flat store and the router (20_memory.md R50 to R57). -/

namespace Sys2Proof.Machine

/-- Run `k` on the value of an outcome that has one; a fault or a refusal ends the sequence (60_exceptions.md R313). -/
def andThen {α β : Type} (o : Out α) (k : α → Out β) : Out β :=
  match o with
  | .next v => k v
  | .fault r => .fault r
  | .refused r => .refused r

/-- End with a fault. The outcome holds no state, so everything the step did before is undone (R311). -/
def raise {α : Type} (r : Fault) : Out α := .fault r

/-- What an address that is not listed reads as. DESIGN CHOICE (log 2): 00, as a front-end that zeroes the rest of
memory leaves it (70_reset_and_hazards.md R342). Any contents can be listed, so this fixes no machine's memory. -/
def unlistedByte : Byte := 0

/-- Every address of the list is above `a`, addresses rise strictly, and no byte is the unlisted one. -/
def Memory.wfAbove (a : Nat) : Memory → Bool
  | [] => true
  | (b, v) :: rest => decide (a < b) && decide (v ≠ unlistedByte) && Memory.wfAbove b rest

/-- The canonical form: equal memories are equal lists. -/
def Memory.wf : Memory → Bool
  | [] => true
  | (b, v) :: rest => decide (v ≠ unlistedByte) && Memory.wfAbove b rest

/-- Every listed address is below `n`. -/
def Memory.below (n : Nat) (m : Memory) : Bool := m.all fun c => decide (c.1 < n)

/-- The byte at address `a`. -/
def Memory.get (a : Nat) : Memory → Byte
  | [] => unlistedByte
  | (b, v) :: rest => if a = b then v else Memory.get a rest

/-- Put a byte in front, unless it is what an unlisted address reads as. -/
def Memory.place (a : Nat) (v : Byte) (m : Memory) : Memory := if v = unlistedByte then m else (a, v) :: m

/-- The memory with the byte at `a` set to `v`, in canonical form. -/
def Memory.put (a : Nat) (v : Byte) : Memory → Memory
  | [] => Memory.place a v []
  | (b, w) :: rest =>
    if a < b then Memory.place a v ((b, w) :: rest)
    else if a = b then Memory.place a v rest
    else (b, w) :: Memory.put a v rest

/-- A store in canonical form, of at least one byte, listing valid addresses only (20_memory.md R50, 00_scope.md R6). -/
def FlatStore.wf (st : FlatStore) : Bool := decide (1 ≤ st.size) && st.cells.wf && st.cells.below st.size

/-- `is_valid(a)` of a flat store (20_memory.md R50). -/
def FlatStore.isValid (st : FlatStore) (a : Nat) : Bool := decide (a < st.size)

/-- `read(a)` of a flat store (R50, R51). -/
def FlatStore.read (st : FlatStore) (a : Nat) : Out Byte :=
  if st.isValid a then .next (st.cells.get a) else raise (.invalidAddress a)

/-- `write(a, v)` of a flat store (R50, R51). -/
def FlatStore.write (st : FlatStore) (a : Nat) (v : Byte) : Out FlatStore :=
  if st.isValid a then .next { st with cells := st.cells.put a v } else raise (.invalidAddress a)

mutual
/-- The flat store and the address in it that address `a` of a byte-addressable object is delegated to (R55). The first
entry, in registration order, whose local range contains `a` decides; a router with none raises `UnmappedAddress` with
its own address (R56), and a nested router with the nested one's. -/
def locate (a : Nat) : Port → Out (Nat × Nat)
  | .flat k => .next (k, a)
  | .router entries => lookup a entries
/-- `Lookup(a)` over a router's entries (R55). -/
def lookup (a : Nat) : MapList → Out (Nat × Nat)
  | .nil => raise (.unmappedAddress a)
  | .cons backing target loc rest =>
    if loc.contains a then locate (target.lo + (a - loc.lo)) backing else lookup a rest
end

/-- `is_valid(a)` of a router: some entry's local range contains `a` (R56). -/
def routerIsValid (a : Nat) : MapList → Bool
  | .nil => false
  | .cons _ _ loc rest => loc.contains a || routerIsValid a rest

/-- A router's entries with one more at the end (R53). -/
def appendEntry (backing : Port) (target loc : AddrRange) : MapList → MapList
  | .nil => .cons backing target loc .nil
  | .cons b t l rest => .cons b t l (appendEntry backing target loc rest)

/-- `map` (R53, R54): append an entry, or refuse with a configuration fault and add none. The tests on the ranges' sizes
come before the overlap test (log 5). -/
def routerMap (entries : MapList) (backing : Port) (target loc : AddrRange) : Out MapList :=
  if !(target.wf && loc.wf && target.sameSize loc) then raise (.mismatchedRangeSize target loc)
  else if !(entries.clearOf loc) then raise (.overlappingMap loc)
  else .next (appendEntry backing target loc entries)

end Sys2Proof.Machine
end

