-- ==== Sys2Proof/Machine/Ops.lean ====
section
/-! DEFINITION. The named operations over memory: the port of the CPU (20_memory.md R58, R60), 16-bit accesses (R63) and
the stack (R66, R67). A step stops at its first failing access and undoes the rest (60_exceptions.md R311, R313): `raise`
and `andThen` of Memory.lean are the one way to do it. There is no trap entry and no trap return to model (R314, R316). -/

namespace Sys2Proof.Machine

/-- A cell of memory: the number of a flat store and an address in it. -/
abbrev CellRef := Nat × Nat

/-- The cell, if it exists, that address `a` of the object `p` names over the given stores (R51, R55, R56). -/
def cellIn (stores : List FlatStore) (p : Port) (a : Nat) : Out CellRef :=
  andThen (locate a p) fun c =>
    match stores[c.1]? with
    | none => .refused (.noStore c.1)
    | some st => if st.isValid c.2 then .next c else raise (.invalidAddress c.2)

/-- The byte a cell holds. -/
def byteIn (stores : List FlatStore) (c : CellRef) : Byte :=
  match stores[c.1]? with
  | none => unlistedByte
  | some st => st.cells.get c.2

/-- The stores with the byte of one cell set. -/
def putIn (stores : List FlatStore) (c : CellRef) (v : Byte) : List FlatStore :=
  match stores[c.1]? with
  | none => stores
  | some st => stores.set c.1 { st with cells := st.cells.put c.2 v }

/-- The cell a CPU address names: through the attached memory, which must be there (R58, 60_exceptions.md R324). -/
def State.cell (s : State) (addr : Word) : Out CellRef :=
  match s.attached with
  | none => .refused .noMemory
  | some p => cellIn s.stores p addr.toNat

/-- The byte of a cell. -/
def State.byteAt (s : State) (c : CellRef) : Byte := byteIn s.stores c

/-- The state with the byte of a cell set. -/
def State.setByte (s : State) (c : CellRef) (v : Byte) : State := { s with stores := putIn s.stores c v }

/-- `MemRead(addr, 1)` (R60). -/
def memRead (s : State) (addr : Word) : Out Byte := andThen (s.cell addr) fun c => .next (s.byteAt c)

/-- `MemWrite(addr, 1, v)` (R60). -/
def memWrite (s : State) (addr : Word) (v : Byte) : Out State := andThen (s.cell addr) fun c => .next (s.setByte c v)

/-- `MemWrite(addr, 2, v)`: low byte, then high byte (00_scope.md R10, 20_memory.md R63). -/
def memWrite16 (s : State) (addr : Word) (v : Word) : Out State :=
  andThen (memWrite s addr (lo v)) fun s1 => memWrite s1 (addr + 1) (hi v)

/-- `Push16(v)` (R66): the high byte at SP - 1, then the low byte at SP - 2, and SP goes down by 2. -/
def push16 (s : State) (v : Word) : Out State :=
  andThen (memWrite s (s.sp - 1) (hi v)) fun s1 =>
    andThen (memWrite s1 (s.sp - 1 - 1) (lo v)) fun s2 => .next { s2 with sp := s.sp - 1 - 1 }

/-- `Pop16()` (R67): the word popped, low byte at SP and high byte at SP + 1, and the state with SP up by 2. -/
def pop16 (s : State) : Out (Word × State) :=
  andThen (memRead s s.sp) fun l =>
    andThen (memRead s (s.sp + 1)) fun h => .next (join h l, { s with sp := s.sp + 1 + 1 })

end Sys2Proof.Machine
end

