-- ==== Sys2Proof/Machine/Flags.lean ====
section
/-! DEFINITION. The flags unit (10_state.md R24 to R26) and every flag computation the spec gives: the 8-bit adder,
subtracter and logic unit (40_alu8.md R120 to R122), DAA (R151), the SP-offset adder and ADD HL (41_alu16.md R160, R161)
and the shift unit (42_rotate_shift_bit.md R180). Sums and differences are exact integers, narrowed where they are
stored (00_scope.md R8). -/

namespace Sys2Proof.Machine

/-- The four flags (10_state.md R24). -/
inductive Flag where
  | z | n | h | c
  deriving DecidableEq, Repr

/-- The position of a flag in F (R24). -/
def Flag.pos : Flag → Nat
  | .z => 7
  | .n => 6
  | .h => 5
  | .c => 4

/-- `flag.X`: the bit of F (R24). -/
def flagOf (f : Byte) (k : Flag) : Bool := f.getLsbD k.pos

/-- `flag.X <- b`: that bit of F, the other seven unchanged (R24). -/
def setFlag (f : Byte) (k : Flag) (b : Bool) : Byte :=
  if b then f ||| (1#8 <<< k.pos) else f &&& ~~~(1#8 <<< k.pos)

/-- A flag of a state. -/
def State.flag (s : State) (k : Flag) : Bool := flagOf s.f k

/-- One column of an instruction's flag string (00_scope.md R11): a value, or `none` for "unchanged". -/
def putFlag (f : Byte) (k : Flag) : Option Bool → Byte
  | none => f
  | some b => setFlag f k b

/-- F after an instruction with the flag string `z n h c` (R11, R24). -/
def writeFlags (f : Byte) (z n h c : Option Bool) : Byte :=
  putFlag (putFlag (putFlag (putFlag f .z z) .n n) .h h) .c c

/-- What an 8-bit unit answers: the result byte and the four flags. -/
structure AluResult where
  res : Byte
  z : Bool
  n : Bool
  h : Bool
  c : Bool
  deriving DecidableEq, Repr

/-- `trunc8` of an exact integer: the mathematical modulus (00_scope.md R8). -/
def trunc8 (v : Int) : Byte := BitVec.ofInt 8 v

/-- `trunc16` of an exact integer (R8). -/
def trunc16 (v : Int) : Word := BitVec.ofInt 16 v

/-- `sext_8(e)` (R8): the signed value of a byte. -/
def sext8 (e : Byte) : Int := if e.toNat < 0x80 then (e.toNat : Int) else (e.toNat : Int) - 256

/-- `Add8(a, v, cin)` (40_alu8.md R120). -/
def add8 (a v : Byte) (cin : Bool) : AluResult :=
  let s := a.toNat + v.toNat + cin.toNat
  let res := BitVec.ofNat 8 s
  { res := res
    z := decide (res = 0)
    n := false
    h := decide (a.toNat % 16 + v.toNat % 16 + cin.toNat > 0x0F)
    c := decide (s > 0xFF) }

/-- `Sub8(a, v, cin)` (R121). -/
def sub8 (a v : Byte) (cin : Bool) : AluResult :=
  let s : Int := (a.toNat : Int) - v.toNat - cin.toNat
  let res := trunc8 s
  { res := res
    z := decide (res = 0)
    n := true
    h := decide (((a.toNat % 16 : Nat) : Int) - (v.toNat % 16 : Nat) - cin.toNat < 0)
    c := decide (s < 0) }

/-- `Logic(op, a, v)` for AND, XOR and OR (R122), given the result byte; H is 1 for AND. -/
def logic8 (res : Byte) (isAnd : Bool) : AluResult :=
  { res := res
    z := decide (res = 0)
    n := false
    h := isAnd
    c := false }

/-- The eight ALU operations on A, an operand and the carry flag (R123 to R146). -/
def aluResult (op : AluOp) (a v : Byte) (cin : Bool) : AluResult :=
  match op with
  | .add => add8 a v false
  | .adc => add8 a v cin
  | .sub => sub8 a v false
  | .sbc => sub8 a v cin
  | .and => logic8 (a &&& v) true
  | .xor => logic8 (a ^^^ v) false
  | .or => logic8 (a ||| v) false
  | .cp => sub8 a v false

/-- What DAA leaves in A, and the new carry (R151). -/
def daaResult (a : Byte) (n h c : Bool) : Byte × Bool :=
  if n then
    let a1 := if c then trunc8 ((a.toNat : Int) - 0x60) else a
    let a2 := if h then trunc8 ((a1.toNat : Int) - 0x06) else a1
    (a2, c)
  else
    let adjustHigh := c || decide (a.toNat > 0x99)
    let a1 := if adjustHigh then trunc8 ((a.toNat : Int) + 0x60) else a
    let a2 := if h || decide (a1.toNat % 16 > 0x09) then trunc8 ((a1.toNat : Int) + 0x06) else a1
    (a2, adjustHigh)

/-- `AddSPe8(sp, e)` (41_alu16.md R160): the result, H and C; Z and N are 0. -/
def addSPe8 (sp : Word) (e : Byte) : Word × Bool × Bool :=
  (trunc16 ((sp.toNat : Int) + sext8 e),
    decide (sp.toNat % 16 + e.toNat % 16 > 0x0F),
    decide (sp.toNat % 256 + e.toNat > 0xFF))

/-- The adder of ADD HL,rr (R161): the result, H and C. -/
def addHL16 (hl v : Word) : Word × Bool × Bool :=
  (BitVec.ofNat 16 (hl.toNat + v.toNat),
    decide (hl.toNat % 4096 + v.toNat % 4096 > 0x0FFF),
    decide (hl.toNat + v.toNat > 0xFFFF))

/-- A carry bit as a byte. -/
def bit8 (b : Bool) : Byte := if b then 1 else 0

/-- The shift unit (42_rotate_shift_bit.md R180): the result and the carry out. -/
def shift (op : ShiftOp) (t : Byte) (cin : Bool) : Byte × Bool :=
  match op with
  | .rlc => ((t <<< 1) ||| (t >>> 7), t.getLsbD 7)
  | .rrc => ((t >>> 1) ||| (t <<< 7), t.getLsbD 0)
  | .rl => ((t <<< 1) ||| bit8 cin, t.getLsbD 7)
  | .rr => ((t >>> 1) ||| (bit8 cin <<< 7), t.getLsbD 0)
  | .sla => (t <<< 1, t.getLsbD 7)
  | .sra => ((t >>> 1) ||| (t &&& 0x80), t.getLsbD 0)
  | .srl => (t >>> 1, t.getLsbD 0)
  | .swap => ((t <<< 4) ||| (t >>> 4), false)

end Sys2Proof.Machine
end

