-- ==== Sys2Proof/Machine/Operands.lean ====
section
/-! DEFINITION. Every operand form: 8-bit slots (30_encoding.md R83, R84), register pairs (10_state.md R21, 30_encoding.md
R85), F under F_LOW_POLICY (10_state.md R23), conditions (43_control.md R220) and the 0xFF00 page (30_encoding.md R92). -/

namespace Sys2Proof.Machine

/-- The register of a slot (R83). -/
def readReg (s : State) : Reg8 → Byte
  | .b => s.b
  | .c => s.c
  | .d => s.d
  | .e => s.e
  | .h => s.h
  | .l => s.l
  | .a => s.a

/-- Write the register of a slot (R84). -/
def writeReg (s : State) (r : Reg8) (v : Byte) : State :=
  match r with
  | .b => { s with b := v }
  | .c => { s with c := v }
  | .d => { s with d := v }
  | .e => { s with e := v }
  | .h => { s with h := v }
  | .l => { s with l := v }
  | .a => { s with a := v }

/-- HL = {H, L} (10_state.md R21). -/
def State.hl (s : State) : Word := join s.h s.l

/-- BC = {B, C} (R21). -/
def State.bc (s : State) : Word := join s.b s.c

/-- DE = {D, E} (R21). -/
def State.de (s : State) : Word := join s.d s.e

/-- AF = {A, F} (R21). -/
def State.af (s : State) : Word := join s.a s.f

/-- What a whole-byte write of `v` leaves in F (R23). -/
def fWritten (p : FLowPolicy) (v : Byte) : Byte :=
  match p with
  | .preserve => v
  | .zero => v &&& 0xF0

/-- A whole-byte write of F (R23). -/
def writeF (s : State) (v : Byte) : State := { s with f := fWritten s.params.fLow v }

/-- Read a pair of table rp (R21, 30_encoding.md R85). -/
def readPair (s : State) : Pair → Word
  | .bc => s.bc
  | .de => s.de
  | .hl => s.hl
  | .sp => s.sp

/-- Write a pair of table rp. -/
def writePair (s : State) (rr : Pair) (v : Word) : State :=
  match rr with
  | .bc => { s with b := hi v, c := lo v }
  | .de => { s with d := hi v, e := lo v }
  | .hl => { s with h := hi v, l := lo v }
  | .sp => { s with sp := v }

/-- Read a pair of table rp2. -/
def readStackPair (s : State) : StackPair → Word
  | .bc => s.bc
  | .de => s.de
  | .hl => s.hl
  | .af => s.af

/-- Write a pair of table rp2; AF's low byte is a whole-byte write of F (10_state.md R21, R23). -/
def writeStackPair (s : State) (rr : StackPair) (v : Word) : State :=
  match rr with
  | .bc => writePair s .bc v
  | .de => writePair s .de v
  | .hl => writePair s .hl v
  | .af => writeF { s with a := hi v } (lo v)

/-- `ReadT8(i)` (30_encoding.md R84). -/
def readT8 (s : State) : Slot → Out Byte
  | .reg r => .next (readReg s r)
  | .atHL => memRead s s.hl

/-- `WriteT8(i, v)` (R84). -/
def writeT8 (s : State) (t : Slot) (v : Byte) : Out State :=
  match t with
  | .reg r => .next (writeReg s r v)
  | .atHL => memWrite s s.hl v

/-- The address of a memory-indirect form: BC, DE, or HL before it moves (R85, 44_loads_stack.md section 4). -/
def indirectAddr (s : State) : Indirect → Word
  | .bc => s.bc
  | .de => s.de
  | .hlInc => s.hl
  | .hlDec => s.hl

/-- The move of HL after the access: up for (HL+), down for (HL-), none for (BC) and (DE). -/
def moveIndirect (s : State) : Indirect → State
  | .bc => s
  | .de => s
  | .hlInc => writePair s .hl (s.hl + 1)
  | .hlDec => writePair s .hl (s.hl - 1)

/-- The address 0xFF00 + k of the HRAM window (R92). -/
def highPage (k : Byte) : Word := 0xFF00 + k.setWidth 16

/-- `Cond(cc)` (43_control.md R220). -/
def condHolds (s : State) : Cond → Bool
  | .nz => !s.flag .z
  | .z => s.flag .z
  | .nc => !s.flag .c
  | .c => s.flag .c

end Sys2Proof.Machine
end

