-- ==== Sys2Proof/Machine/Alu16.lean ====
section
/-! DEFINITION. 16-bit arithmetic (41_alu16.md R160 to R165). -/

namespace Sys2Proof.Machine

/-- ADD HL,rr (R161): Z is unchanged. -/
def addHL (rr : Pair) (s : State) : Out State :=
  let r := addHL16 s.hl (readPair s rr)
  .next { writePair s .hl r.1 with f := writeFlags s.f none (some false) (some r.2.1) (some r.2.2) }

/-- INC rr (R162): no flag changes. -/
def incPair (rr : Pair) (s : State) : Out State := .next (writePair s rr (readPair s rr + 1))

/-- DEC rr (R163): no flag changes. -/
def decPair (rr : Pair) (s : State) : Out State := .next (writePair s rr (readPair s rr - 1))

/-- ADD SP,e8 (R164). -/
def addSP (e : Byte) (s : State) : Out State :=
  let r := addSPe8 s.sp e
  .next { s with sp := r.1, f := writeFlags s.f (some false) (some false) (some r.2.1) (some r.2.2) }

/-- LD HL,SP+e8 (R165). -/
def ldHLSP (e : Byte) (s : State) : Out State :=
  let r := addSPe8 s.sp e
  .next { writePair s .hl r.1 with f := writeFlags s.f (some false) (some false) (some r.2.1) (some r.2.2) }

/-! ## One meaning per row of the opcode table -/

/-- INC BC (R162). -/
def execInc_BC (s : State) : Out State := incPair .bc s

/-- ADD HL,BC (R161). -/
def execAdd_HL_BC (s : State) : Out State := addHL .bc s

/-- DEC BC (R163). -/
def execDec_BC (s : State) : Out State := decPair .bc s

/-- INC DE (R162). -/
def execInc_DE (s : State) : Out State := incPair .de s

/-- ADD HL,DE (R161). -/
def execAdd_HL_DE (s : State) : Out State := addHL .de s

/-- DEC DE (R163). -/
def execDec_DE (s : State) : Out State := decPair .de s

/-- INC HL (R162). -/
def execInc_HL (s : State) : Out State := incPair .hl s

/-- ADD HL,HL (R161). -/
def execAdd_HL_HL (s : State) : Out State := addHL .hl s

/-- DEC HL (R163). -/
def execDec_HL (s : State) : Out State := decPair .hl s

/-- INC SP (R162). -/
def execInc_SP (s : State) : Out State := incPair .sp s

/-- ADD HL,SP (R161). -/
def execAdd_HL_SP (s : State) : Out State := addHL .sp s

/-- DEC SP (R163). -/
def execDec_SP (s : State) : Out State := decPair .sp s

/-- ADD SP,e8 (R164). -/
def execAdd_SP_e8 (e : Byte) (s : State) : Out State := addSP e s

/-- LD HL,SP+e8 (R165). -/
def execLd_HL_SPe8 (e : Byte) (s : State) : Out State := ldHLSP e s

end Sys2Proof.Machine
end

