-- ==== Sys2Proof/Machine/Alu8.lean ====
section
/-! DEFINITION. 8-bit arithmetic and logic (40_alu8.md R123 to R154): the shared operations, then one meaning per row of
the opcode table. A meaning runs on the state after the fetch, whose PC is the address after the instruction
(30_encoding.md R90). -/

namespace Sys2Proof.Machine

/-- The state after an ALU operation on A and `v` (R123 to R146): all four flags, and A unless the operation is CP. -/
def aluState (op : AluOp) (s : State) (v : Byte) : State :=
  let r := aluResult op s.a v (s.flag .c)
  { s with
    a := if op = .cp then s.a else r.res
    f := writeFlags s.f (some r.z) (some r.n) (some r.h) (some r.c) }

/-- An ALU operation on a slot. -/
def alu (op : AluOp) (t : Slot) (s : State) : Out State := andThen (readT8 s t) fun v => .next (aluState op s v)

/-- An ALU operation on an immediate byte. -/
def aluImm (op : AluOp) (n : Byte) (s : State) : Out State := .next (aluState op s n)

/-- INC of a slot (R147, R148): C is unchanged. -/
def inc8 (t : Slot) (s : State) : Out State :=
  andThen (readT8 s t) fun v =>
    let r := add8 v 1 false
    andThen (writeT8 s t r.res) fun s1 => .next { s1 with f := writeFlags s1.f (some r.z) (some r.n) (some r.h) none }

/-- DEC of a slot (R149, R150): C is unchanged. -/
def dec8 (t : Slot) (s : State) : Out State :=
  andThen (readT8 s t) fun v =>
    let r := sub8 v 1 false
    andThen (writeT8 s t r.res) fun s1 => .next { s1 with f := writeFlags s1.f (some r.z) (some r.n) (some r.h) none }

/-- DAA (R151): N is unchanged. -/
def daa (s : State) : Out State :=
  let r := daaResult s.a (s.flag .n) (s.flag .h) (s.flag .c)
  .next { s with a := r.1, f := writeFlags s.f (some (decide (r.1 = 0))) none (some false) (some r.2) }

/-- CPL (R152). -/
def cpl (s : State) : Out State := .next { s with a := ~~~s.a, f := writeFlags s.f none (some true) (some true) none }

/-- SCF (R153). -/
def scf (s : State) : Out State := .next { s with f := writeFlags s.f none (some false) (some false) (some true) }

/-- CCF (R154). -/
def ccf (s : State) : Out State :=
  .next { s with f := writeFlags s.f none (some false) (some false) (some (!s.flag .c)) }

/-! ## One meaning per row of the opcode table -/

/-- INC B (R147). -/
def execInc_B (s : State) : Out State := inc8 (.reg .b) s

/-- DEC B (R149). -/
def execDec_B (s : State) : Out State := dec8 (.reg .b) s

/-- INC C (R147). -/
def execInc_C (s : State) : Out State := inc8 (.reg .c) s

/-- DEC C (R149). -/
def execDec_C (s : State) : Out State := dec8 (.reg .c) s

/-- INC D (R147). -/
def execInc_D (s : State) : Out State := inc8 (.reg .d) s

/-- DEC D (R149). -/
def execDec_D (s : State) : Out State := dec8 (.reg .d) s

/-- INC E (R147). -/
def execInc_E (s : State) : Out State := inc8 (.reg .e) s

/-- DEC E (R149). -/
def execDec_E (s : State) : Out State := dec8 (.reg .e) s

/-- INC H (R147). -/
def execInc_H (s : State) : Out State := inc8 (.reg .h) s

/-- DEC H (R149). -/
def execDec_H (s : State) : Out State := dec8 (.reg .h) s

/-- DAA (R151). -/
def execDaa (s : State) : Out State := daa s

/-- INC L (R147). -/
def execInc_L (s : State) : Out State := inc8 (.reg .l) s

/-- DEC L (R149). -/
def execDec_L (s : State) : Out State := dec8 (.reg .l) s

/-- CPL (R152). -/
def execCpl (s : State) : Out State := cpl s

/-- INC (HL) (R148). -/
def execInc_atHL (s : State) : Out State := inc8 .atHL s

/-- DEC (HL) (R150). -/
def execDec_atHL (s : State) : Out State := dec8 .atHL s

/-- SCF (R153). -/
def execScf (s : State) : Out State := scf s

/-- INC A (R147). -/
def execInc_A (s : State) : Out State := inc8 (.reg .a) s

/-- DEC A (R149). -/
def execDec_A (s : State) : Out State := dec8 (.reg .a) s

/-- CCF (R154). -/
def execCcf (s : State) : Out State := ccf s

/-- ADD A,B (R123). -/
def execAdd_A_B (s : State) : Out State := alu .add (.reg .b) s

/-- ADD A,C (R123). -/
def execAdd_A_C (s : State) : Out State := alu .add (.reg .c) s

/-- ADD A,D (R123). -/
def execAdd_A_D (s : State) : Out State := alu .add (.reg .d) s

/-- ADD A,E (R123). -/
def execAdd_A_E (s : State) : Out State := alu .add (.reg .e) s

/-- ADD A,H (R123). -/
def execAdd_A_H (s : State) : Out State := alu .add (.reg .h) s

/-- ADD A,L (R123). -/
def execAdd_A_L (s : State) : Out State := alu .add (.reg .l) s

/-- ADD A,(HL) (R124). -/
def execAdd_A_atHL (s : State) : Out State := alu .add .atHL s

/-- ADD A,A (R123). -/
def execAdd_A_A (s : State) : Out State := alu .add (.reg .a) s

/-- ADC A,B (R126). -/
def execAdc_A_B (s : State) : Out State := alu .adc (.reg .b) s

/-- ADC A,C (R126). -/
def execAdc_A_C (s : State) : Out State := alu .adc (.reg .c) s

/-- ADC A,D (R126). -/
def execAdc_A_D (s : State) : Out State := alu .adc (.reg .d) s

/-- ADC A,E (R126). -/
def execAdc_A_E (s : State) : Out State := alu .adc (.reg .e) s

/-- ADC A,H (R126). -/
def execAdc_A_H (s : State) : Out State := alu .adc (.reg .h) s

/-- ADC A,L (R126). -/
def execAdc_A_L (s : State) : Out State := alu .adc (.reg .l) s

/-- ADC A,(HL) (R127). -/
def execAdc_A_atHL (s : State) : Out State := alu .adc .atHL s

/-- ADC A,A (R126). -/
def execAdc_A_A (s : State) : Out State := alu .adc (.reg .a) s

/-- SUB B (R129). -/
def execSub_B (s : State) : Out State := alu .sub (.reg .b) s

/-- SUB C (R129). -/
def execSub_C (s : State) : Out State := alu .sub (.reg .c) s

/-- SUB D (R129). -/
def execSub_D (s : State) : Out State := alu .sub (.reg .d) s

/-- SUB E (R129). -/
def execSub_E (s : State) : Out State := alu .sub (.reg .e) s

/-- SUB H (R129). -/
def execSub_H (s : State) : Out State := alu .sub (.reg .h) s

/-- SUB L (R129). -/
def execSub_L (s : State) : Out State := alu .sub (.reg .l) s

/-- SUB (HL) (R130). -/
def execSub_atHL (s : State) : Out State := alu .sub .atHL s

/-- SUB A (R129). -/
def execSub_A (s : State) : Out State := alu .sub (.reg .a) s

/-- SBC A,B (R132). -/
def execSbc_A_B (s : State) : Out State := alu .sbc (.reg .b) s

/-- SBC A,C (R132). -/
def execSbc_A_C (s : State) : Out State := alu .sbc (.reg .c) s

/-- SBC A,D (R132). -/
def execSbc_A_D (s : State) : Out State := alu .sbc (.reg .d) s

/-- SBC A,E (R132). -/
def execSbc_A_E (s : State) : Out State := alu .sbc (.reg .e) s

/-- SBC A,H (R132). -/
def execSbc_A_H (s : State) : Out State := alu .sbc (.reg .h) s

/-- SBC A,L (R132). -/
def execSbc_A_L (s : State) : Out State := alu .sbc (.reg .l) s

/-- SBC A,(HL) (R133). -/
def execSbc_A_atHL (s : State) : Out State := alu .sbc .atHL s

/-- SBC A,A (R132). -/
def execSbc_A_A (s : State) : Out State := alu .sbc (.reg .a) s

/-- AND B (R135). -/
def execAnd_B (s : State) : Out State := alu .and (.reg .b) s

/-- AND C (R135). -/
def execAnd_C (s : State) : Out State := alu .and (.reg .c) s

/-- AND D (R135). -/
def execAnd_D (s : State) : Out State := alu .and (.reg .d) s

/-- AND E (R135). -/
def execAnd_E (s : State) : Out State := alu .and (.reg .e) s

/-- AND H (R135). -/
def execAnd_H (s : State) : Out State := alu .and (.reg .h) s

/-- AND L (R135). -/
def execAnd_L (s : State) : Out State := alu .and (.reg .l) s

/-- AND (HL) (R136). -/
def execAnd_atHL (s : State) : Out State := alu .and .atHL s

/-- AND A (R135). -/
def execAnd_A (s : State) : Out State := alu .and (.reg .a) s

/-- XOR B (R138). -/
def execXor_B (s : State) : Out State := alu .xor (.reg .b) s

/-- XOR C (R138). -/
def execXor_C (s : State) : Out State := alu .xor (.reg .c) s

/-- XOR D (R138). -/
def execXor_D (s : State) : Out State := alu .xor (.reg .d) s

/-- XOR E (R138). -/
def execXor_E (s : State) : Out State := alu .xor (.reg .e) s

/-- XOR H (R138). -/
def execXor_H (s : State) : Out State := alu .xor (.reg .h) s

/-- XOR L (R138). -/
def execXor_L (s : State) : Out State := alu .xor (.reg .l) s

/-- XOR (HL) (R139). -/
def execXor_atHL (s : State) : Out State := alu .xor .atHL s

/-- XOR A (R138). -/
def execXor_A (s : State) : Out State := alu .xor (.reg .a) s

/-- OR B (R141). -/
def execOr_B (s : State) : Out State := alu .or (.reg .b) s

/-- OR C (R141). -/
def execOr_C (s : State) : Out State := alu .or (.reg .c) s

/-- OR D (R141). -/
def execOr_D (s : State) : Out State := alu .or (.reg .d) s

/-- OR E (R141). -/
def execOr_E (s : State) : Out State := alu .or (.reg .e) s

/-- OR H (R141). -/
def execOr_H (s : State) : Out State := alu .or (.reg .h) s

/-- OR L (R141). -/
def execOr_L (s : State) : Out State := alu .or (.reg .l) s

/-- OR (HL) (R142). -/
def execOr_atHL (s : State) : Out State := alu .or .atHL s

/-- OR A (R141). -/
def execOr_A (s : State) : Out State := alu .or (.reg .a) s

/-- CP B (R144). -/
def execCp_B (s : State) : Out State := alu .cp (.reg .b) s

/-- CP C (R144). -/
def execCp_C (s : State) : Out State := alu .cp (.reg .c) s

/-- CP D (R144). -/
def execCp_D (s : State) : Out State := alu .cp (.reg .d) s

/-- CP E (R144). -/
def execCp_E (s : State) : Out State := alu .cp (.reg .e) s

/-- CP H (R144). -/
def execCp_H (s : State) : Out State := alu .cp (.reg .h) s

/-- CP L (R144). -/
def execCp_L (s : State) : Out State := alu .cp (.reg .l) s

/-- CP (HL) (R145). -/
def execCp_atHL (s : State) : Out State := alu .cp .atHL s

/-- CP A (R144). -/
def execCp_A (s : State) : Out State := alu .cp (.reg .a) s

/-- ADD A,n8 (R125). -/
def execAdd_A_n8 (n : Byte) (s : State) : Out State := aluImm .add n s

/-- ADC A,n8 (R128). -/
def execAdc_A_n8 (n : Byte) (s : State) : Out State := aluImm .adc n s

/-- SUB n8 (R131). -/
def execSub_n8 (n : Byte) (s : State) : Out State := aluImm .sub n s

/-- SBC A,n8 (R134). -/
def execSbc_A_n8 (n : Byte) (s : State) : Out State := aluImm .sbc n s

/-- AND n8 (R137). -/
def execAnd_n8 (n : Byte) (s : State) : Out State := aluImm .and n s

/-- XOR n8 (R140). -/
def execXor_n8 (n : Byte) (s : State) : Out State := aluImm .xor n s

/-- OR n8 (R143). -/
def execOr_n8 (n : Byte) (s : State) : Out State := aluImm .or n s

/-- CP n8 (R146). -/
def execCp_n8 (n : Byte) (s : State) : Out State := aluImm .cp n s

end Sys2Proof.Machine
end

