-- ==== Sys2Proof/Machine/CbBit.lean ====
section
/-! DEFINITION. BIT, RES and SET (42_rotate_shift_bit.md R201 to R206). -/

namespace Sys2Proof.Machine

/-- BIT b on a slot: only the flags change, `Z 0 1 -` (R201, R202). -/
def bitSlot (b : Oct) (t : Slot) (s : State) : Out State :=
  andThen (readT8 s t) fun v =>
    .next { s with f := writeFlags s.f (some (!v.getLsbD b.code)) (some false) (some true) none }

/-- RES b on a slot: the byte is written back even when it does not change (R203, R204). -/
def resSlot (b : Oct) (t : Slot) (s : State) : Out State :=
  andThen (readT8 s t) fun v => writeT8 s t (v &&& ~~~(1#8 <<< b.code))

/-- SET b on a slot: the byte is written back even when it does not change (R205, R206). -/
def setSlot (b : Oct) (t : Slot) (s : State) : Out State :=
  andThen (readT8 s t) fun v => writeT8 s t (v ||| (1#8 <<< b.code))

/-! ## One meaning per row of the opcode table -/

/-- BIT 0,B (R201). -/
def execBit_0_B (s : State) : Out State := bitSlot .o0 (.reg .b) s

/-- BIT 0,C (R201). -/
def execBit_0_C (s : State) : Out State := bitSlot .o0 (.reg .c) s

/-- BIT 0,D (R201). -/
def execBit_0_D (s : State) : Out State := bitSlot .o0 (.reg .d) s

/-- BIT 0,E (R201). -/
def execBit_0_E (s : State) : Out State := bitSlot .o0 (.reg .e) s

/-- BIT 0,H (R201). -/
def execBit_0_H (s : State) : Out State := bitSlot .o0 (.reg .h) s

/-- BIT 0,L (R201). -/
def execBit_0_L (s : State) : Out State := bitSlot .o0 (.reg .l) s

/-- BIT 0,(HL) (R202). -/
def execBit_0_atHL (s : State) : Out State := bitSlot .o0 .atHL s

/-- BIT 0,A (R201). -/
def execBit_0_A (s : State) : Out State := bitSlot .o0 (.reg .a) s

/-- BIT 1,B (R201). -/
def execBit_1_B (s : State) : Out State := bitSlot .o1 (.reg .b) s

/-- BIT 1,C (R201). -/
def execBit_1_C (s : State) : Out State := bitSlot .o1 (.reg .c) s

/-- BIT 1,D (R201). -/
def execBit_1_D (s : State) : Out State := bitSlot .o1 (.reg .d) s

/-- BIT 1,E (R201). -/
def execBit_1_E (s : State) : Out State := bitSlot .o1 (.reg .e) s

/-- BIT 1,H (R201). -/
def execBit_1_H (s : State) : Out State := bitSlot .o1 (.reg .h) s

/-- BIT 1,L (R201). -/
def execBit_1_L (s : State) : Out State := bitSlot .o1 (.reg .l) s

/-- BIT 1,(HL) (R202). -/
def execBit_1_atHL (s : State) : Out State := bitSlot .o1 .atHL s

/-- BIT 1,A (R201). -/
def execBit_1_A (s : State) : Out State := bitSlot .o1 (.reg .a) s

/-- BIT 2,B (R201). -/
def execBit_2_B (s : State) : Out State := bitSlot .o2 (.reg .b) s

/-- BIT 2,C (R201). -/
def execBit_2_C (s : State) : Out State := bitSlot .o2 (.reg .c) s

/-- BIT 2,D (R201). -/
def execBit_2_D (s : State) : Out State := bitSlot .o2 (.reg .d) s

/-- BIT 2,E (R201). -/
def execBit_2_E (s : State) : Out State := bitSlot .o2 (.reg .e) s

/-- BIT 2,H (R201). -/
def execBit_2_H (s : State) : Out State := bitSlot .o2 (.reg .h) s

/-- BIT 2,L (R201). -/
def execBit_2_L (s : State) : Out State := bitSlot .o2 (.reg .l) s

/-- BIT 2,(HL) (R202). -/
def execBit_2_atHL (s : State) : Out State := bitSlot .o2 .atHL s

/-- BIT 2,A (R201). -/
def execBit_2_A (s : State) : Out State := bitSlot .o2 (.reg .a) s

/-- BIT 3,B (R201). -/
def execBit_3_B (s : State) : Out State := bitSlot .o3 (.reg .b) s

/-- BIT 3,C (R201). -/
def execBit_3_C (s : State) : Out State := bitSlot .o3 (.reg .c) s

/-- BIT 3,D (R201). -/
def execBit_3_D (s : State) : Out State := bitSlot .o3 (.reg .d) s

/-- BIT 3,E (R201). -/
def execBit_3_E (s : State) : Out State := bitSlot .o3 (.reg .e) s

/-- BIT 3,H (R201). -/
def execBit_3_H (s : State) : Out State := bitSlot .o3 (.reg .h) s

/-- BIT 3,L (R201). -/
def execBit_3_L (s : State) : Out State := bitSlot .o3 (.reg .l) s

/-- BIT 3,(HL) (R202). -/
def execBit_3_atHL (s : State) : Out State := bitSlot .o3 .atHL s

/-- BIT 3,A (R201). -/
def execBit_3_A (s : State) : Out State := bitSlot .o3 (.reg .a) s

/-- BIT 4,B (R201). -/
def execBit_4_B (s : State) : Out State := bitSlot .o4 (.reg .b) s

/-- BIT 4,C (R201). -/
def execBit_4_C (s : State) : Out State := bitSlot .o4 (.reg .c) s

/-- BIT 4,D (R201). -/
def execBit_4_D (s : State) : Out State := bitSlot .o4 (.reg .d) s

/-- BIT 4,E (R201). -/
def execBit_4_E (s : State) : Out State := bitSlot .o4 (.reg .e) s

/-- BIT 4,H (R201). -/
def execBit_4_H (s : State) : Out State := bitSlot .o4 (.reg .h) s

/-- BIT 4,L (R201). -/
def execBit_4_L (s : State) : Out State := bitSlot .o4 (.reg .l) s

/-- BIT 4,(HL) (R202). -/
def execBit_4_atHL (s : State) : Out State := bitSlot .o4 .atHL s

/-- BIT 4,A (R201). -/
def execBit_4_A (s : State) : Out State := bitSlot .o4 (.reg .a) s

/-- BIT 5,B (R201). -/
def execBit_5_B (s : State) : Out State := bitSlot .o5 (.reg .b) s

/-- BIT 5,C (R201). -/
def execBit_5_C (s : State) : Out State := bitSlot .o5 (.reg .c) s

/-- BIT 5,D (R201). -/
def execBit_5_D (s : State) : Out State := bitSlot .o5 (.reg .d) s

/-- BIT 5,E (R201). -/
def execBit_5_E (s : State) : Out State := bitSlot .o5 (.reg .e) s

/-- BIT 5,H (R201). -/
def execBit_5_H (s : State) : Out State := bitSlot .o5 (.reg .h) s

/-- BIT 5,L (R201). -/
def execBit_5_L (s : State) : Out State := bitSlot .o5 (.reg .l) s

/-- BIT 5,(HL) (R202). -/
def execBit_5_atHL (s : State) : Out State := bitSlot .o5 .atHL s

/-- BIT 5,A (R201). -/
def execBit_5_A (s : State) : Out State := bitSlot .o5 (.reg .a) s

/-- BIT 6,B (R201). -/
def execBit_6_B (s : State) : Out State := bitSlot .o6 (.reg .b) s

/-- BIT 6,C (R201). -/
def execBit_6_C (s : State) : Out State := bitSlot .o6 (.reg .c) s

/-- BIT 6,D (R201). -/
def execBit_6_D (s : State) : Out State := bitSlot .o6 (.reg .d) s

/-- BIT 6,E (R201). -/
def execBit_6_E (s : State) : Out State := bitSlot .o6 (.reg .e) s

/-- BIT 6,H (R201). -/
def execBit_6_H (s : State) : Out State := bitSlot .o6 (.reg .h) s

/-- BIT 6,L (R201). -/
def execBit_6_L (s : State) : Out State := bitSlot .o6 (.reg .l) s

/-- BIT 6,(HL) (R202). -/
def execBit_6_atHL (s : State) : Out State := bitSlot .o6 .atHL s

/-- BIT 6,A (R201). -/
def execBit_6_A (s : State) : Out State := bitSlot .o6 (.reg .a) s

/-- BIT 7,B (R201). -/
def execBit_7_B (s : State) : Out State := bitSlot .o7 (.reg .b) s

/-- BIT 7,C (R201). -/
def execBit_7_C (s : State) : Out State := bitSlot .o7 (.reg .c) s

/-- BIT 7,D (R201). -/
def execBit_7_D (s : State) : Out State := bitSlot .o7 (.reg .d) s

/-- BIT 7,E (R201). -/
def execBit_7_E (s : State) : Out State := bitSlot .o7 (.reg .e) s

/-- BIT 7,H (R201). -/
def execBit_7_H (s : State) : Out State := bitSlot .o7 (.reg .h) s

/-- BIT 7,L (R201). -/
def execBit_7_L (s : State) : Out State := bitSlot .o7 (.reg .l) s

/-- BIT 7,(HL) (R202). -/
def execBit_7_atHL (s : State) : Out State := bitSlot .o7 .atHL s

/-- BIT 7,A (R201). -/
def execBit_7_A (s : State) : Out State := bitSlot .o7 (.reg .a) s

/-- RES 0,B (R203). -/
def execRes_0_B (s : State) : Out State := resSlot .o0 (.reg .b) s

/-- RES 0,C (R203). -/
def execRes_0_C (s : State) : Out State := resSlot .o0 (.reg .c) s

/-- RES 0,D (R203). -/
def execRes_0_D (s : State) : Out State := resSlot .o0 (.reg .d) s

/-- RES 0,E (R203). -/
def execRes_0_E (s : State) : Out State := resSlot .o0 (.reg .e) s

/-- RES 0,H (R203). -/
def execRes_0_H (s : State) : Out State := resSlot .o0 (.reg .h) s

/-- RES 0,L (R203). -/
def execRes_0_L (s : State) : Out State := resSlot .o0 (.reg .l) s

/-- RES 0,(HL) (R204). -/
def execRes_0_atHL (s : State) : Out State := resSlot .o0 .atHL s

/-- RES 0,A (R203). -/
def execRes_0_A (s : State) : Out State := resSlot .o0 (.reg .a) s

/-- RES 1,B (R203). -/
def execRes_1_B (s : State) : Out State := resSlot .o1 (.reg .b) s

/-- RES 1,C (R203). -/
def execRes_1_C (s : State) : Out State := resSlot .o1 (.reg .c) s

/-- RES 1,D (R203). -/
def execRes_1_D (s : State) : Out State := resSlot .o1 (.reg .d) s

/-- RES 1,E (R203). -/
def execRes_1_E (s : State) : Out State := resSlot .o1 (.reg .e) s

/-- RES 1,H (R203). -/
def execRes_1_H (s : State) : Out State := resSlot .o1 (.reg .h) s

/-- RES 1,L (R203). -/
def execRes_1_L (s : State) : Out State := resSlot .o1 (.reg .l) s

/-- RES 1,(HL) (R204). -/
def execRes_1_atHL (s : State) : Out State := resSlot .o1 .atHL s

/-- RES 1,A (R203). -/
def execRes_1_A (s : State) : Out State := resSlot .o1 (.reg .a) s

/-- RES 2,B (R203). -/
def execRes_2_B (s : State) : Out State := resSlot .o2 (.reg .b) s

/-- RES 2,C (R203). -/
def execRes_2_C (s : State) : Out State := resSlot .o2 (.reg .c) s

/-- RES 2,D (R203). -/
def execRes_2_D (s : State) : Out State := resSlot .o2 (.reg .d) s

/-- RES 2,E (R203). -/
def execRes_2_E (s : State) : Out State := resSlot .o2 (.reg .e) s

/-- RES 2,H (R203). -/
def execRes_2_H (s : State) : Out State := resSlot .o2 (.reg .h) s

/-- RES 2,L (R203). -/
def execRes_2_L (s : State) : Out State := resSlot .o2 (.reg .l) s

/-- RES 2,(HL) (R204). -/
def execRes_2_atHL (s : State) : Out State := resSlot .o2 .atHL s

/-- RES 2,A (R203). -/
def execRes_2_A (s : State) : Out State := resSlot .o2 (.reg .a) s

/-- RES 3,B (R203). -/
def execRes_3_B (s : State) : Out State := resSlot .o3 (.reg .b) s

/-- RES 3,C (R203). -/
def execRes_3_C (s : State) : Out State := resSlot .o3 (.reg .c) s

/-- RES 3,D (R203). -/
def execRes_3_D (s : State) : Out State := resSlot .o3 (.reg .d) s

/-- RES 3,E (R203). -/
def execRes_3_E (s : State) : Out State := resSlot .o3 (.reg .e) s

/-- RES 3,H (R203). -/
def execRes_3_H (s : State) : Out State := resSlot .o3 (.reg .h) s

/-- RES 3,L (R203). -/
def execRes_3_L (s : State) : Out State := resSlot .o3 (.reg .l) s

/-- RES 3,(HL) (R204). -/
def execRes_3_atHL (s : State) : Out State := resSlot .o3 .atHL s

/-- RES 3,A (R203). -/
def execRes_3_A (s : State) : Out State := resSlot .o3 (.reg .a) s

/-- RES 4,B (R203). -/
def execRes_4_B (s : State) : Out State := resSlot .o4 (.reg .b) s

/-- RES 4,C (R203). -/
def execRes_4_C (s : State) : Out State := resSlot .o4 (.reg .c) s

/-- RES 4,D (R203). -/
def execRes_4_D (s : State) : Out State := resSlot .o4 (.reg .d) s

/-- RES 4,E (R203). -/
def execRes_4_E (s : State) : Out State := resSlot .o4 (.reg .e) s

/-- RES 4,H (R203). -/
def execRes_4_H (s : State) : Out State := resSlot .o4 (.reg .h) s

/-- RES 4,L (R203). -/
def execRes_4_L (s : State) : Out State := resSlot .o4 (.reg .l) s

/-- RES 4,(HL) (R204). -/
def execRes_4_atHL (s : State) : Out State := resSlot .o4 .atHL s

/-- RES 4,A (R203). -/
def execRes_4_A (s : State) : Out State := resSlot .o4 (.reg .a) s

/-- RES 5,B (R203). -/
def execRes_5_B (s : State) : Out State := resSlot .o5 (.reg .b) s

/-- RES 5,C (R203). -/
def execRes_5_C (s : State) : Out State := resSlot .o5 (.reg .c) s

/-- RES 5,D (R203). -/
def execRes_5_D (s : State) : Out State := resSlot .o5 (.reg .d) s

/-- RES 5,E (R203). -/
def execRes_5_E (s : State) : Out State := resSlot .o5 (.reg .e) s

/-- RES 5,H (R203). -/
def execRes_5_H (s : State) : Out State := resSlot .o5 (.reg .h) s

/-- RES 5,L (R203). -/
def execRes_5_L (s : State) : Out State := resSlot .o5 (.reg .l) s

/-- RES 5,(HL) (R204). -/
def execRes_5_atHL (s : State) : Out State := resSlot .o5 .atHL s

/-- RES 5,A (R203). -/
def execRes_5_A (s : State) : Out State := resSlot .o5 (.reg .a) s

/-- RES 6,B (R203). -/
def execRes_6_B (s : State) : Out State := resSlot .o6 (.reg .b) s

/-- RES 6,C (R203). -/
def execRes_6_C (s : State) : Out State := resSlot .o6 (.reg .c) s

/-- RES 6,D (R203). -/
def execRes_6_D (s : State) : Out State := resSlot .o6 (.reg .d) s

/-- RES 6,E (R203). -/
def execRes_6_E (s : State) : Out State := resSlot .o6 (.reg .e) s

/-- RES 6,H (R203). -/
def execRes_6_H (s : State) : Out State := resSlot .o6 (.reg .h) s

/-- RES 6,L (R203). -/
def execRes_6_L (s : State) : Out State := resSlot .o6 (.reg .l) s

/-- RES 6,(HL) (R204). -/
def execRes_6_atHL (s : State) : Out State := resSlot .o6 .atHL s

/-- RES 6,A (R203). -/
def execRes_6_A (s : State) : Out State := resSlot .o6 (.reg .a) s

/-- RES 7,B (R203). -/
def execRes_7_B (s : State) : Out State := resSlot .o7 (.reg .b) s

/-- RES 7,C (R203). -/
def execRes_7_C (s : State) : Out State := resSlot .o7 (.reg .c) s

/-- RES 7,D (R203). -/
def execRes_7_D (s : State) : Out State := resSlot .o7 (.reg .d) s

/-- RES 7,E (R203). -/
def execRes_7_E (s : State) : Out State := resSlot .o7 (.reg .e) s

/-- RES 7,H (R203). -/
def execRes_7_H (s : State) : Out State := resSlot .o7 (.reg .h) s

/-- RES 7,L (R203). -/
def execRes_7_L (s : State) : Out State := resSlot .o7 (.reg .l) s

/-- RES 7,(HL) (R204). -/
def execRes_7_atHL (s : State) : Out State := resSlot .o7 .atHL s

/-- RES 7,A (R203). -/
def execRes_7_A (s : State) : Out State := resSlot .o7 (.reg .a) s

/-- SET 0,B (R205). -/
def execSet_0_B (s : State) : Out State := setSlot .o0 (.reg .b) s

/-- SET 0,C (R205). -/
def execSet_0_C (s : State) : Out State := setSlot .o0 (.reg .c) s

/-- SET 0,D (R205). -/
def execSet_0_D (s : State) : Out State := setSlot .o0 (.reg .d) s

/-- SET 0,E (R205). -/
def execSet_0_E (s : State) : Out State := setSlot .o0 (.reg .e) s

/-- SET 0,H (R205). -/
def execSet_0_H (s : State) : Out State := setSlot .o0 (.reg .h) s

/-- SET 0,L (R205). -/
def execSet_0_L (s : State) : Out State := setSlot .o0 (.reg .l) s

/-- SET 0,(HL) (R206). -/
def execSet_0_atHL (s : State) : Out State := setSlot .o0 .atHL s

/-- SET 0,A (R205). -/
def execSet_0_A (s : State) : Out State := setSlot .o0 (.reg .a) s

/-- SET 1,B (R205). -/
def execSet_1_B (s : State) : Out State := setSlot .o1 (.reg .b) s

/-- SET 1,C (R205). -/
def execSet_1_C (s : State) : Out State := setSlot .o1 (.reg .c) s

/-- SET 1,D (R205). -/
def execSet_1_D (s : State) : Out State := setSlot .o1 (.reg .d) s

/-- SET 1,E (R205). -/
def execSet_1_E (s : State) : Out State := setSlot .o1 (.reg .e) s

/-- SET 1,H (R205). -/
def execSet_1_H (s : State) : Out State := setSlot .o1 (.reg .h) s

/-- SET 1,L (R205). -/
def execSet_1_L (s : State) : Out State := setSlot .o1 (.reg .l) s

/-- SET 1,(HL) (R206). -/
def execSet_1_atHL (s : State) : Out State := setSlot .o1 .atHL s

/-- SET 1,A (R205). -/
def execSet_1_A (s : State) : Out State := setSlot .o1 (.reg .a) s

/-- SET 2,B (R205). -/
def execSet_2_B (s : State) : Out State := setSlot .o2 (.reg .b) s

/-- SET 2,C (R205). -/
def execSet_2_C (s : State) : Out State := setSlot .o2 (.reg .c) s

/-- SET 2,D (R205). -/
def execSet_2_D (s : State) : Out State := setSlot .o2 (.reg .d) s

/-- SET 2,E (R205). -/
def execSet_2_E (s : State) : Out State := setSlot .o2 (.reg .e) s

/-- SET 2,H (R205). -/
def execSet_2_H (s : State) : Out State := setSlot .o2 (.reg .h) s

/-- SET 2,L (R205). -/
def execSet_2_L (s : State) : Out State := setSlot .o2 (.reg .l) s

/-- SET 2,(HL) (R206). -/
def execSet_2_atHL (s : State) : Out State := setSlot .o2 .atHL s

/-- SET 2,A (R205). -/
def execSet_2_A (s : State) : Out State := setSlot .o2 (.reg .a) s

/-- SET 3,B (R205). -/
def execSet_3_B (s : State) : Out State := setSlot .o3 (.reg .b) s

/-- SET 3,C (R205). -/
def execSet_3_C (s : State) : Out State := setSlot .o3 (.reg .c) s

/-- SET 3,D (R205). -/
def execSet_3_D (s : State) : Out State := setSlot .o3 (.reg .d) s

/-- SET 3,E (R205). -/
def execSet_3_E (s : State) : Out State := setSlot .o3 (.reg .e) s

/-- SET 3,H (R205). -/
def execSet_3_H (s : State) : Out State := setSlot .o3 (.reg .h) s

/-- SET 3,L (R205). -/
def execSet_3_L (s : State) : Out State := setSlot .o3 (.reg .l) s

/-- SET 3,(HL) (R206). -/
def execSet_3_atHL (s : State) : Out State := setSlot .o3 .atHL s

/-- SET 3,A (R205). -/
def execSet_3_A (s : State) : Out State := setSlot .o3 (.reg .a) s

/-- SET 4,B (R205). -/
def execSet_4_B (s : State) : Out State := setSlot .o4 (.reg .b) s

/-- SET 4,C (R205). -/
def execSet_4_C (s : State) : Out State := setSlot .o4 (.reg .c) s

/-- SET 4,D (R205). -/
def execSet_4_D (s : State) : Out State := setSlot .o4 (.reg .d) s

/-- SET 4,E (R205). -/
def execSet_4_E (s : State) : Out State := setSlot .o4 (.reg .e) s

/-- SET 4,H (R205). -/
def execSet_4_H (s : State) : Out State := setSlot .o4 (.reg .h) s

/-- SET 4,L (R205). -/
def execSet_4_L (s : State) : Out State := setSlot .o4 (.reg .l) s

/-- SET 4,(HL) (R206). -/
def execSet_4_atHL (s : State) : Out State := setSlot .o4 .atHL s

/-- SET 4,A (R205). -/
def execSet_4_A (s : State) : Out State := setSlot .o4 (.reg .a) s

/-- SET 5,B (R205). -/
def execSet_5_B (s : State) : Out State := setSlot .o5 (.reg .b) s

/-- SET 5,C (R205). -/
def execSet_5_C (s : State) : Out State := setSlot .o5 (.reg .c) s

/-- SET 5,D (R205). -/
def execSet_5_D (s : State) : Out State := setSlot .o5 (.reg .d) s

/-- SET 5,E (R205). -/
def execSet_5_E (s : State) : Out State := setSlot .o5 (.reg .e) s

/-- SET 5,H (R205). -/
def execSet_5_H (s : State) : Out State := setSlot .o5 (.reg .h) s

/-- SET 5,L (R205). -/
def execSet_5_L (s : State) : Out State := setSlot .o5 (.reg .l) s

/-- SET 5,(HL) (R206). -/
def execSet_5_atHL (s : State) : Out State := setSlot .o5 .atHL s

/-- SET 5,A (R205). -/
def execSet_5_A (s : State) : Out State := setSlot .o5 (.reg .a) s

/-- SET 6,B (R205). -/
def execSet_6_B (s : State) : Out State := setSlot .o6 (.reg .b) s

/-- SET 6,C (R205). -/
def execSet_6_C (s : State) : Out State := setSlot .o6 (.reg .c) s

/-- SET 6,D (R205). -/
def execSet_6_D (s : State) : Out State := setSlot .o6 (.reg .d) s

/-- SET 6,E (R205). -/
def execSet_6_E (s : State) : Out State := setSlot .o6 (.reg .e) s

/-- SET 6,H (R205). -/
def execSet_6_H (s : State) : Out State := setSlot .o6 (.reg .h) s

/-- SET 6,L (R205). -/
def execSet_6_L (s : State) : Out State := setSlot .o6 (.reg .l) s

/-- SET 6,(HL) (R206). -/
def execSet_6_atHL (s : State) : Out State := setSlot .o6 .atHL s

/-- SET 6,A (R205). -/
def execSet_6_A (s : State) : Out State := setSlot .o6 (.reg .a) s

/-- SET 7,B (R205). -/
def execSet_7_B (s : State) : Out State := setSlot .o7 (.reg .b) s

/-- SET 7,C (R205). -/
def execSet_7_C (s : State) : Out State := setSlot .o7 (.reg .c) s

/-- SET 7,D (R205). -/
def execSet_7_D (s : State) : Out State := setSlot .o7 (.reg .d) s

/-- SET 7,E (R205). -/
def execSet_7_E (s : State) : Out State := setSlot .o7 (.reg .e) s

/-- SET 7,H (R205). -/
def execSet_7_H (s : State) : Out State := setSlot .o7 (.reg .h) s

/-- SET 7,L (R205). -/
def execSet_7_L (s : State) : Out State := setSlot .o7 (.reg .l) s

/-- SET 7,(HL) (R206). -/
def execSet_7_atHL (s : State) : Out State := setSlot .o7 .atHL s

/-- SET 7,A (R205). -/
def execSet_7_A (s : State) : Out State := setSlot .o7 (.reg .a) s

end Sys2Proof.Machine
end

