-- ==== Sys2Proof/Machine/CbShift.lean ====
section
/-! DEFINITION. CB-page rotates, shifts and SWAP (42_rotate_shift_bit.md R185 to R200). -/

namespace Sys2Proof.Machine

/-- A rotate, shift or SWAP of a slot: read once, write once, then the flags `Z 0 0 C` (R185 to R200). -/
def shiftSlot (op : ShiftOp) (t : Slot) (s : State) : Out State :=
  andThen (readT8 s t) fun v =>
    let r := shift op v (s.flag .c)
    andThen (writeT8 s t r.1) fun s1 =>
      .next { s1 with f := writeFlags s1.f (some (decide (r.1 = 0))) (some false) (some false) (some r.2) }

/-! ## One meaning per row of the opcode table -/

/-- RLC B (R185). -/
def execRlc_B (s : State) : Out State := shiftSlot .rlc (.reg .b) s

/-- RLC C (R185). -/
def execRlc_C (s : State) : Out State := shiftSlot .rlc (.reg .c) s

/-- RLC D (R185). -/
def execRlc_D (s : State) : Out State := shiftSlot .rlc (.reg .d) s

/-- RLC E (R185). -/
def execRlc_E (s : State) : Out State := shiftSlot .rlc (.reg .e) s

/-- RLC H (R185). -/
def execRlc_H (s : State) : Out State := shiftSlot .rlc (.reg .h) s

/-- RLC L (R185). -/
def execRlc_L (s : State) : Out State := shiftSlot .rlc (.reg .l) s

/-- RLC (HL) (R186). -/
def execRlc_atHL (s : State) : Out State := shiftSlot .rlc .atHL s

/-- RLC A (R185). -/
def execRlc_A (s : State) : Out State := shiftSlot .rlc (.reg .a) s

/-- RRC B (R187). -/
def execRrc_B (s : State) : Out State := shiftSlot .rrc (.reg .b) s

/-- RRC C (R187). -/
def execRrc_C (s : State) : Out State := shiftSlot .rrc (.reg .c) s

/-- RRC D (R187). -/
def execRrc_D (s : State) : Out State := shiftSlot .rrc (.reg .d) s

/-- RRC E (R187). -/
def execRrc_E (s : State) : Out State := shiftSlot .rrc (.reg .e) s

/-- RRC H (R187). -/
def execRrc_H (s : State) : Out State := shiftSlot .rrc (.reg .h) s

/-- RRC L (R187). -/
def execRrc_L (s : State) : Out State := shiftSlot .rrc (.reg .l) s

/-- RRC (HL) (R188). -/
def execRrc_atHL (s : State) : Out State := shiftSlot .rrc .atHL s

/-- RRC A (R187). -/
def execRrc_A (s : State) : Out State := shiftSlot .rrc (.reg .a) s

/-- RL B (R189). -/
def execRl_B (s : State) : Out State := shiftSlot .rl (.reg .b) s

/-- RL C (R189). -/
def execRl_C (s : State) : Out State := shiftSlot .rl (.reg .c) s

/-- RL D (R189). -/
def execRl_D (s : State) : Out State := shiftSlot .rl (.reg .d) s

/-- RL E (R189). -/
def execRl_E (s : State) : Out State := shiftSlot .rl (.reg .e) s

/-- RL H (R189). -/
def execRl_H (s : State) : Out State := shiftSlot .rl (.reg .h) s

/-- RL L (R189). -/
def execRl_L (s : State) : Out State := shiftSlot .rl (.reg .l) s

/-- RL (HL) (R190). -/
def execRl_atHL (s : State) : Out State := shiftSlot .rl .atHL s

/-- RL A (R189). -/
def execRl_A (s : State) : Out State := shiftSlot .rl (.reg .a) s

/-- RR B (R191). -/
def execRr_B (s : State) : Out State := shiftSlot .rr (.reg .b) s

/-- RR C (R191). -/
def execRr_C (s : State) : Out State := shiftSlot .rr (.reg .c) s

/-- RR D (R191). -/
def execRr_D (s : State) : Out State := shiftSlot .rr (.reg .d) s

/-- RR E (R191). -/
def execRr_E (s : State) : Out State := shiftSlot .rr (.reg .e) s

/-- RR H (R191). -/
def execRr_H (s : State) : Out State := shiftSlot .rr (.reg .h) s

/-- RR L (R191). -/
def execRr_L (s : State) : Out State := shiftSlot .rr (.reg .l) s

/-- RR (HL) (R192). -/
def execRr_atHL (s : State) : Out State := shiftSlot .rr .atHL s

/-- RR A (R191). -/
def execRr_A (s : State) : Out State := shiftSlot .rr (.reg .a) s

/-- SLA B (R193). -/
def execSla_B (s : State) : Out State := shiftSlot .sla (.reg .b) s

/-- SLA C (R193). -/
def execSla_C (s : State) : Out State := shiftSlot .sla (.reg .c) s

/-- SLA D (R193). -/
def execSla_D (s : State) : Out State := shiftSlot .sla (.reg .d) s

/-- SLA E (R193). -/
def execSla_E (s : State) : Out State := shiftSlot .sla (.reg .e) s

/-- SLA H (R193). -/
def execSla_H (s : State) : Out State := shiftSlot .sla (.reg .h) s

/-- SLA L (R193). -/
def execSla_L (s : State) : Out State := shiftSlot .sla (.reg .l) s

/-- SLA (HL) (R194). -/
def execSla_atHL (s : State) : Out State := shiftSlot .sla .atHL s

/-- SLA A (R193). -/
def execSla_A (s : State) : Out State := shiftSlot .sla (.reg .a) s

/-- SRA B (R195). -/
def execSra_B (s : State) : Out State := shiftSlot .sra (.reg .b) s

/-- SRA C (R195). -/
def execSra_C (s : State) : Out State := shiftSlot .sra (.reg .c) s

/-- SRA D (R195). -/
def execSra_D (s : State) : Out State := shiftSlot .sra (.reg .d) s

/-- SRA E (R195). -/
def execSra_E (s : State) : Out State := shiftSlot .sra (.reg .e) s

/-- SRA H (R195). -/
def execSra_H (s : State) : Out State := shiftSlot .sra (.reg .h) s

/-- SRA L (R195). -/
def execSra_L (s : State) : Out State := shiftSlot .sra (.reg .l) s

/-- SRA (HL) (R196). -/
def execSra_atHL (s : State) : Out State := shiftSlot .sra .atHL s

/-- SRA A (R195). -/
def execSra_A (s : State) : Out State := shiftSlot .sra (.reg .a) s

/-- SWAP B (R197). -/
def execSwap_B (s : State) : Out State := shiftSlot .swap (.reg .b) s

/-- SWAP C (R197). -/
def execSwap_C (s : State) : Out State := shiftSlot .swap (.reg .c) s

/-- SWAP D (R197). -/
def execSwap_D (s : State) : Out State := shiftSlot .swap (.reg .d) s

/-- SWAP E (R197). -/
def execSwap_E (s : State) : Out State := shiftSlot .swap (.reg .e) s

/-- SWAP H (R197). -/
def execSwap_H (s : State) : Out State := shiftSlot .swap (.reg .h) s

/-- SWAP L (R197). -/
def execSwap_L (s : State) : Out State := shiftSlot .swap (.reg .l) s

/-- SWAP (HL) (R198). -/
def execSwap_atHL (s : State) : Out State := shiftSlot .swap .atHL s

/-- SWAP A (R197). -/
def execSwap_A (s : State) : Out State := shiftSlot .swap (.reg .a) s

/-- SRL B (R199). -/
def execSrl_B (s : State) : Out State := shiftSlot .srl (.reg .b) s

/-- SRL C (R199). -/
def execSrl_C (s : State) : Out State := shiftSlot .srl (.reg .c) s

/-- SRL D (R199). -/
def execSrl_D (s : State) : Out State := shiftSlot .srl (.reg .d) s

/-- SRL E (R199). -/
def execSrl_E (s : State) : Out State := shiftSlot .srl (.reg .e) s

/-- SRL H (R199). -/
def execSrl_H (s : State) : Out State := shiftSlot .srl (.reg .h) s

/-- SRL L (R199). -/
def execSrl_L (s : State) : Out State := shiftSlot .srl (.reg .l) s

/-- SRL (HL) (R200). -/
def execSrl_atHL (s : State) : Out State := shiftSlot .srl .atHL s

/-- SRL A (R199). -/
def execSrl_A (s : State) : Out State := shiftSlot .srl (.reg .a) s

end Sys2Proof.Machine
end

