-- ==== Sys2Proof/Machine/Control.lean ====
section
/-! DEFINITION. Control transfer (43_control.md R220 to R231). The state's PC is the address after the instruction; an
instruction that is not taken leaves it there. No flag changes. -/

namespace Sys2Proof.Machine

/-- JP a16 (R221). -/
def jump (a : Word) (s : State) : Out State := .next { s with pc := a }

/-- JP cc,a16 (R222). -/
def jumpIf (cc : Cond) (a : Word) (s : State) : Out State := if condHolds s cc then jump a s else .next s

/-- JP HL: no memory access (R223, C5). -/
def jumpHL (s : State) : Out State := .next { s with pc := s.hl }

/-- JR e8 (R224). -/
def jumpRel (e : Byte) (s : State) : Out State := .next { s with pc := trunc16 ((s.pc.toNat : Int) + sext8 e) }

/-- JR cc,e8 (R225). -/
def jumpRelIf (cc : Cond) (e : Byte) (s : State) : Out State := if condHolds s cc then jumpRel e s else .next s

/-- CALL a16 (R226). -/
def call (a : Word) (s : State) : Out State := andThen (push16 s s.pc) fun s1 => .next { s1 with pc := a }

/-- CALL cc,a16 (R227): not taken, no stack access is made. -/
def callIf (cc : Cond) (a : Word) (s : State) : Out State := if condHolds s cc then call a s else .next s

/-- RET (R228). -/
def ret (s : State) : Out State := andThen (pop16 s) fun r => .next { r.2 with pc := r.1 }

/-- RET cc (R229): not taken, no stack access is made. -/
def retIf (cc : Cond) (s : State) : Out State := if condHolds s cc then ret s else .next s

/-- RETI: RET, then ime is set (R230, 60_exceptions.md R316). -/
def reti (s : State) : Out State := andThen (ret s) fun s1 => .next { s1 with ime := true }

/-- RST: a call of `y * 8` (R231). -/
def restart (y : Oct) (s : State) : Out State := call (BitVec.ofNat 16 (y.code * 8)) s

/-! ## One meaning per row of the opcode table -/

/-- JR e8 (R224). -/
def execJr_e8 (e : Byte) (s : State) : Out State := jumpRel e s

/-- JR NZ,e8 (R225). -/
def execJr_NZ_e8 (e : Byte) (s : State) : Out State := jumpRelIf .nz e s

/-- JR Z,e8 (R225). -/
def execJr_Z_e8 (e : Byte) (s : State) : Out State := jumpRelIf .z e s

/-- JR NC,e8 (R225). -/
def execJr_NC_e8 (e : Byte) (s : State) : Out State := jumpRelIf .nc e s

/-- JR C,e8 (R225). -/
def execJr_C_e8 (e : Byte) (s : State) : Out State := jumpRelIf .c e s

/-- RET NZ (R229). -/
def execRet_NZ (s : State) : Out State := retIf .nz s

/-- JP NZ,a16 (R222). -/
def execJp_NZ_a16 (a : Word) (s : State) : Out State := jumpIf .nz a s

/-- JP a16 (R221). -/
def execJp_a16 (a : Word) (s : State) : Out State := jump a s

/-- CALL NZ,a16 (R227). -/
def execCall_NZ_a16 (a : Word) (s : State) : Out State := callIf .nz a s

/-- RST 0x00 (R231). -/
def execRst_00 (s : State) : Out State := restart .o0 s

/-- RET Z (R229). -/
def execRet_Z (s : State) : Out State := retIf .z s

/-- RET (R228). -/
def execRet (s : State) : Out State := ret s

/-- JP Z,a16 (R222). -/
def execJp_Z_a16 (a : Word) (s : State) : Out State := jumpIf .z a s

/-- CALL Z,a16 (R227). -/
def execCall_Z_a16 (a : Word) (s : State) : Out State := callIf .z a s

/-- CALL a16 (R226). -/
def execCall_a16 (a : Word) (s : State) : Out State := call a s

/-- RST 0x08 (R231). -/
def execRst_08 (s : State) : Out State := restart .o1 s

/-- RET NC (R229). -/
def execRet_NC (s : State) : Out State := retIf .nc s

/-- JP NC,a16 (R222). -/
def execJp_NC_a16 (a : Word) (s : State) : Out State := jumpIf .nc a s

/-- CALL NC,a16 (R227). -/
def execCall_NC_a16 (a : Word) (s : State) : Out State := callIf .nc a s

/-- RST 0x10 (R231). -/
def execRst_10 (s : State) : Out State := restart .o2 s

/-- RET C (R229). -/
def execRet_C (s : State) : Out State := retIf .c s

/-- RETI (R230). -/
def execReti (s : State) : Out State := reti s

/-- JP C,a16 (R222). -/
def execJp_C_a16 (a : Word) (s : State) : Out State := jumpIf .c a s

/-- CALL C,a16 (R227). -/
def execCall_C_a16 (a : Word) (s : State) : Out State := callIf .c a s

/-- RST 0x18 (R231). -/
def execRst_18 (s : State) : Out State := restart .o3 s

/-- RST 0x20 (R231). -/
def execRst_20 (s : State) : Out State := restart .o4 s

/-- JP HL (R223). -/
def execJp_HL (s : State) : Out State := jumpHL s

/-- RST 0x28 (R231). -/
def execRst_28 (s : State) : Out State := restart .o5 s

/-- RST 0x30 (R231). -/
def execRst_30 (s : State) : Out State := restart .o6 s

/-- RST 0x38 (R231). -/
def execRst_38 (s : State) : Out State := restart .o7 s

end Sys2Proof.Machine
end

