-- ==== Sys2Proof/Machine/Illegal.lean ====
section
/-! DEFINITION. The 11 unused opcodes (30_encoding.md R86, 45_system.md R295). -/

namespace Sys2Proof.Machine

/-- An unused opcode: the fault `UnknownOpcode` with the opcode byte, always (R295, D1). -/
def unusedOpcode (u : Unused) (_ : State) : Out State := raise (.unknownOpcode u.opcode)

/-! ## One meaning per row of the opcode table -/

/-- unused opcode D3 (R295). -/
def execUnused_D3 (s : State) : Out State := unusedOpcode .xD3 s

/-- unused opcode DB (R295). -/
def execUnused_DB (s : State) : Out State := unusedOpcode .xDB s

/-- unused opcode DD (R295). -/
def execUnused_DD (s : State) : Out State := unusedOpcode .xDD s

/-- unused opcode E3 (R295). -/
def execUnused_E3 (s : State) : Out State := unusedOpcode .xE3 s

/-- unused opcode E4 (R295). -/
def execUnused_E4 (s : State) : Out State := unusedOpcode .xE4 s

/-- unused opcode EB (R295). -/
def execUnused_EB (s : State) : Out State := unusedOpcode .xEB s

/-- unused opcode EC (R295). -/
def execUnused_EC (s : State) : Out State := unusedOpcode .xEC s

/-- unused opcode ED (R295). -/
def execUnused_ED (s : State) : Out State := unusedOpcode .xED s

/-- unused opcode F4 (R295). -/
def execUnused_F4 (s : State) : Out State := unusedOpcode .xF4 s

/-- unused opcode FC (R295). -/
def execUnused_FC (s : State) : Out State := unusedOpcode .xFC s

/-- unused opcode FD (R295). -/
def execUnused_FD (s : State) : Out State := unusedOpcode .xFD s

end Sys2Proof.Machine
end

