-- ==== Sys2Proof/Machine/Load16.lean ====
section
/-! DEFINITION. 16-bit loads (44_loads_stack.md R255, R270, R271). -/

namespace Sys2Proof.Machine

/-- LD rr,n16 (R255). -/
def ldPair (rr : Pair) (w : Word) (s : State) : Out State := .next (writePair s rr w)

/-- LD (a16),SP: the low byte first (R270, D7). -/
def storeSP (addr : Word) (s : State) : Out State := memWrite16 s addr s.sp

/-- LD SP,HL (R271). -/
def ldSPHL (s : State) : Out State := .next { s with sp := s.hl }

/-! ## One meaning per row of the opcode table -/

/-- LD BC,n16 (R255). -/
def execLd_BC_n16 (w : Word) (s : State) : Out State := ldPair .bc w s

/-- LD (a16),SP (R270). -/
def execLd_atA16_SP (a : Word) (s : State) : Out State := storeSP a s

/-- LD DE,n16 (R255). -/
def execLd_DE_n16 (w : Word) (s : State) : Out State := ldPair .de w s

/-- LD HL,n16 (R255). -/
def execLd_HL_n16 (w : Word) (s : State) : Out State := ldPair .hl w s

/-- LD SP,n16 (R255). -/
def execLd_SP_n16 (w : Word) (s : State) : Out State := ldPair .sp w s

/-- LD SP,HL (R271). -/
def execLd_SP_HL (s : State) : Out State := ldSPHL s

end Sys2Proof.Machine
end

