-- ==== Sys2Proof/Machine/Load8.lean ====
section
/-! DEFINITION. 8-bit loads (44_loads_stack.md R250 to R254 and R256 to R269). A load that faults changes nothing. -/

namespace Sys2Proof.Machine

/-- LD of a slot from a slot (R250, R251, R252): the source is read before the destination is written. -/
def ld8 (dst src : Slot) (s : State) : Out State := andThen (readT8 s src) fun v => writeT8 s dst v

/-- LD of a slot with an immediate byte (R253, R254). -/
def ldImm (dst : Slot) (n : Byte) (s : State) : Out State := writeT8 s dst n

/-- Store A through a pair; HL moves after the access (R256, R257, R260, R261). -/
def storeIndirect (i : Indirect) (s : State) : Out State :=
  andThen (memWrite s (indirectAddr s i) s.a) fun s1 => .next (moveIndirect s1 i)

/-- Load A through a pair; HL moves after the access (R258, R259, R262, R263). -/
def loadIndirect (i : Indirect) (s : State) : Out State :=
  andThen (memRead s (indirectAddr s i)) fun v => .next (moveIndirect { s with a := v } i)

/-- Store A at an address (R264, R266, R268). -/
def storeA (addr : Word) (s : State) : Out State := memWrite s addr s.a

/-- Load A from an address (R265, R267, R269). -/
def loadA (addr : Word) (s : State) : Out State := andThen (memRead s addr) fun v => .next { s with a := v }

/-! ## One meaning per row of the opcode table -/

/-- LD (BC),A (R256). -/
def execLd_atBC_A (s : State) : Out State := storeIndirect .bc s

/-- LD B,n8 (R253). -/
def execLd_B_n8 (n : Byte) (s : State) : Out State := ldImm (.reg .b) n s

/-- LD A,(BC) (R258). -/
def execLd_A_atBC (s : State) : Out State := loadIndirect .bc s

/-- LD C,n8 (R253). -/
def execLd_C_n8 (n : Byte) (s : State) : Out State := ldImm (.reg .c) n s

/-- LD (DE),A (R257). -/
def execLd_atDE_A (s : State) : Out State := storeIndirect .de s

/-- LD D,n8 (R253). -/
def execLd_D_n8 (n : Byte) (s : State) : Out State := ldImm (.reg .d) n s

/-- LD A,(DE) (R259). -/
def execLd_A_atDE (s : State) : Out State := loadIndirect .de s

/-- LD E,n8 (R253). -/
def execLd_E_n8 (n : Byte) (s : State) : Out State := ldImm (.reg .e) n s

/-- LD (HL+),A (R260). -/
def execLd_atHLinc_A (s : State) : Out State := storeIndirect .hlInc s

/-- LD H,n8 (R253). -/
def execLd_H_n8 (n : Byte) (s : State) : Out State := ldImm (.reg .h) n s

/-- LD A,(HL+) (R262). -/
def execLd_A_atHLinc (s : State) : Out State := loadIndirect .hlInc s

/-- LD L,n8 (R253). -/
def execLd_L_n8 (n : Byte) (s : State) : Out State := ldImm (.reg .l) n s

/-- LD (HL-),A (R261). -/
def execLd_atHLdec_A (s : State) : Out State := storeIndirect .hlDec s

/-- LD (HL),n8 (R254). -/
def execLd_atHL_n8 (n : Byte) (s : State) : Out State := ldImm .atHL n s

/-- LD A,(HL-) (R263). -/
def execLd_A_atHLdec (s : State) : Out State := loadIndirect .hlDec s

/-- LD A,n8 (R253). -/
def execLd_A_n8 (n : Byte) (s : State) : Out State := ldImm (.reg .a) n s

/-- LD B,B (R250). -/
def execLd_B_B (s : State) : Out State := ld8 (.reg .b) (.reg .b) s

/-- LD B,C (R250). -/
def execLd_B_C (s : State) : Out State := ld8 (.reg .b) (.reg .c) s

/-- LD B,D (R250). -/
def execLd_B_D (s : State) : Out State := ld8 (.reg .b) (.reg .d) s

/-- LD B,E (R250). -/
def execLd_B_E (s : State) : Out State := ld8 (.reg .b) (.reg .e) s

/-- LD B,H (R250). -/
def execLd_B_H (s : State) : Out State := ld8 (.reg .b) (.reg .h) s

/-- LD B,L (R250). -/
def execLd_B_L (s : State) : Out State := ld8 (.reg .b) (.reg .l) s

/-- LD B,(HL) (R251). -/
def execLd_B_atHL (s : State) : Out State := ld8 (.reg .b) .atHL s

/-- LD B,A (R250). -/
def execLd_B_A (s : State) : Out State := ld8 (.reg .b) (.reg .a) s

/-- LD C,B (R250). -/
def execLd_C_B (s : State) : Out State := ld8 (.reg .c) (.reg .b) s

/-- LD C,C (R250). -/
def execLd_C_C (s : State) : Out State := ld8 (.reg .c) (.reg .c) s

/-- LD C,D (R250). -/
def execLd_C_D (s : State) : Out State := ld8 (.reg .c) (.reg .d) s

/-- LD C,E (R250). -/
def execLd_C_E (s : State) : Out State := ld8 (.reg .c) (.reg .e) s

/-- LD C,H (R250). -/
def execLd_C_H (s : State) : Out State := ld8 (.reg .c) (.reg .h) s

/-- LD C,L (R250). -/
def execLd_C_L (s : State) : Out State := ld8 (.reg .c) (.reg .l) s

/-- LD C,(HL) (R251). -/
def execLd_C_atHL (s : State) : Out State := ld8 (.reg .c) .atHL s

/-- LD C,A (R250). -/
def execLd_C_A (s : State) : Out State := ld8 (.reg .c) (.reg .a) s

/-- LD D,B (R250). -/
def execLd_D_B (s : State) : Out State := ld8 (.reg .d) (.reg .b) s

/-- LD D,C (R250). -/
def execLd_D_C (s : State) : Out State := ld8 (.reg .d) (.reg .c) s

/-- LD D,D (R250). -/
def execLd_D_D (s : State) : Out State := ld8 (.reg .d) (.reg .d) s

/-- LD D,E (R250). -/
def execLd_D_E (s : State) : Out State := ld8 (.reg .d) (.reg .e) s

/-- LD D,H (R250). -/
def execLd_D_H (s : State) : Out State := ld8 (.reg .d) (.reg .h) s

/-- LD D,L (R250). -/
def execLd_D_L (s : State) : Out State := ld8 (.reg .d) (.reg .l) s

/-- LD D,(HL) (R251). -/
def execLd_D_atHL (s : State) : Out State := ld8 (.reg .d) .atHL s

/-- LD D,A (R250). -/
def execLd_D_A (s : State) : Out State := ld8 (.reg .d) (.reg .a) s

/-- LD E,B (R250). -/
def execLd_E_B (s : State) : Out State := ld8 (.reg .e) (.reg .b) s

/-- LD E,C (R250). -/
def execLd_E_C (s : State) : Out State := ld8 (.reg .e) (.reg .c) s

/-- LD E,D (R250). -/
def execLd_E_D (s : State) : Out State := ld8 (.reg .e) (.reg .d) s

/-- LD E,E (R250). -/
def execLd_E_E (s : State) : Out State := ld8 (.reg .e) (.reg .e) s

/-- LD E,H (R250). -/
def execLd_E_H (s : State) : Out State := ld8 (.reg .e) (.reg .h) s

/-- LD E,L (R250). -/
def execLd_E_L (s : State) : Out State := ld8 (.reg .e) (.reg .l) s

/-- LD E,(HL) (R251). -/
def execLd_E_atHL (s : State) : Out State := ld8 (.reg .e) .atHL s

/-- LD E,A (R250). -/
def execLd_E_A (s : State) : Out State := ld8 (.reg .e) (.reg .a) s

/-- LD H,B (R250). -/
def execLd_H_B (s : State) : Out State := ld8 (.reg .h) (.reg .b) s

/-- LD H,C (R250). -/
def execLd_H_C (s : State) : Out State := ld8 (.reg .h) (.reg .c) s

/-- LD H,D (R250). -/
def execLd_H_D (s : State) : Out State := ld8 (.reg .h) (.reg .d) s

/-- LD H,E (R250). -/
def execLd_H_E (s : State) : Out State := ld8 (.reg .h) (.reg .e) s

/-- LD H,H (R250). -/
def execLd_H_H (s : State) : Out State := ld8 (.reg .h) (.reg .h) s

/-- LD H,L (R250). -/
def execLd_H_L (s : State) : Out State := ld8 (.reg .h) (.reg .l) s

/-- LD H,(HL) (R251). -/
def execLd_H_atHL (s : State) : Out State := ld8 (.reg .h) .atHL s

/-- LD H,A (R250). -/
def execLd_H_A (s : State) : Out State := ld8 (.reg .h) (.reg .a) s

/-- LD L,B (R250). -/
def execLd_L_B (s : State) : Out State := ld8 (.reg .l) (.reg .b) s

/-- LD L,C (R250). -/
def execLd_L_C (s : State) : Out State := ld8 (.reg .l) (.reg .c) s

/-- LD L,D (R250). -/
def execLd_L_D (s : State) : Out State := ld8 (.reg .l) (.reg .d) s

/-- LD L,E (R250). -/
def execLd_L_E (s : State) : Out State := ld8 (.reg .l) (.reg .e) s

/-- LD L,H (R250). -/
def execLd_L_H (s : State) : Out State := ld8 (.reg .l) (.reg .h) s

/-- LD L,L (R250). -/
def execLd_L_L (s : State) : Out State := ld8 (.reg .l) (.reg .l) s

/-- LD L,(HL) (R251). -/
def execLd_L_atHL (s : State) : Out State := ld8 (.reg .l) .atHL s

/-- LD L,A (R250). -/
def execLd_L_A (s : State) : Out State := ld8 (.reg .l) (.reg .a) s

/-- LD (HL),B (R252). -/
def execLd_atHL_B (s : State) : Out State := ld8 .atHL (.reg .b) s

/-- LD (HL),C (R252). -/
def execLd_atHL_C (s : State) : Out State := ld8 .atHL (.reg .c) s

/-- LD (HL),D (R252). -/
def execLd_atHL_D (s : State) : Out State := ld8 .atHL (.reg .d) s

/-- LD (HL),E (R252). -/
def execLd_atHL_E (s : State) : Out State := ld8 .atHL (.reg .e) s

/-- LD (HL),H (R252). -/
def execLd_atHL_H (s : State) : Out State := ld8 .atHL (.reg .h) s

/-- LD (HL),L (R252). -/
def execLd_atHL_L (s : State) : Out State := ld8 .atHL (.reg .l) s

/-- LD (HL),A (R252). -/
def execLd_atHL_A (s : State) : Out State := ld8 .atHL (.reg .a) s

/-- LD A,B (R250). -/
def execLd_A_B (s : State) : Out State := ld8 (.reg .a) (.reg .b) s

/-- LD A,C (R250). -/
def execLd_A_C (s : State) : Out State := ld8 (.reg .a) (.reg .c) s

/-- LD A,D (R250). -/
def execLd_A_D (s : State) : Out State := ld8 (.reg .a) (.reg .d) s

/-- LD A,E (R250). -/
def execLd_A_E (s : State) : Out State := ld8 (.reg .a) (.reg .e) s

/-- LD A,H (R250). -/
def execLd_A_H (s : State) : Out State := ld8 (.reg .a) (.reg .h) s

/-- LD A,L (R250). -/
def execLd_A_L (s : State) : Out State := ld8 (.reg .a) (.reg .l) s

/-- LD A,(HL) (R251). -/
def execLd_A_atHL (s : State) : Out State := ld8 (.reg .a) .atHL s

/-- LD A,A (R250). -/
def execLd_A_A (s : State) : Out State := ld8 (.reg .a) (.reg .a) s

/-- LDH (a8),A (R264). -/
def execLdh_atA8_A (n : Byte) (s : State) : Out State := storeA (highPage n) s

/-- LD (C),A (R266). -/
def execLd_atC_A (s : State) : Out State := storeA (highPage s.c) s

/-- LD (a16),A (R268). -/
def execLd_atA16_A (a : Word) (s : State) : Out State := storeA a s

/-- LDH A,(a8) (R265). -/
def execLdh_A_atA8 (n : Byte) (s : State) : Out State := loadA (highPage n) s

/-- LD A,(C) (R267). -/
def execLd_A_atC (s : State) : Out State := loadA (highPage s.c) s

/-- LD A,(a16) (R269). -/
def execLd_A_atA16 (a : Word) (s : State) : Out State := loadA a s

end Sys2Proof.Machine
end

