-- ==== Sys2Proof/Machine/Rotate.lean ====
section
/-! DEFINITION. Rotates of A on the main page (42_rotate_shift_bit.md R181 to R184). -/

namespace Sys2Proof.Machine

/-- A rotate of A: the shift unit on A, with Z forced to 0 (R180 to R184). -/
def rotateA (op : ShiftOp) (s : State) : Out State :=
  let r := shift op s.a (s.flag .c)
  .next { s with a := r.1, f := writeFlags s.f (some false) (some false) (some false) (some r.2) }

/-! ## One meaning per row of the opcode table -/

/-- RLCA (R181). -/
def execRlca (s : State) : Out State := rotateA .rlc s

/-- RRCA (R182). -/
def execRrca (s : State) : Out State := rotateA .rrc s

/-- RLA (R183). -/
def execRla (s : State) : Out State := rotateA .rl s

/-- RRA (R184). -/
def execRra (s : State) : Out State := rotateA .rr s

end Sys2Proof.Machine
end

