-- ==== Sys2Proof/Machine/Stack.lean ====
section
/-! DEFINITION. PUSH and POP (44_loads_stack.md R272 to R274). -/

namespace Sys2Proof.Machine

/-- PUSH rr (R272). -/
def pushPair (rr : StackPair) (s : State) : Out State := push16 s (readStackPair s rr)

/-- POP rr (R273), POP AF among them (R274). -/
def popPair (rr : StackPair) (s : State) : Out State := andThen (pop16 s) fun r => .next (writeStackPair r.2 rr r.1)

/-! ## One meaning per row of the opcode table -/

/-- POP BC (R273). -/
def execPop_BC (s : State) : Out State := popPair .bc s

/-- PUSH BC (R272). -/
def execPush_BC (s : State) : Out State := pushPair .bc s

/-- POP DE (R273). -/
def execPop_DE (s : State) : Out State := popPair .de s

/-- PUSH DE (R272). -/
def execPush_DE (s : State) : Out State := pushPair .de s

/-- POP HL (R273). -/
def execPop_HL (s : State) : Out State := popPair .hl s

/-- PUSH HL (R272). -/
def execPush_HL (s : State) : Out State := pushPair .hl s

/-- POP AF (R274). -/
def execPop_AF (s : State) : Out State := popPair .af s

/-- PUSH AF (R272). -/
def execPush_AF (s : State) : Out State := pushPair .af s

end Sys2Proof.Machine
end

