-- ==== Sys2Proof/Machine/System.lean ====
section
/-! DEFINITION. System instructions (45_system.md R290 to R294). They run the same way in every run state (R297). -/

namespace Sys2Proof.Machine

/-- NOP (R290): the fetch has advanced PC. -/
def nop (s : State) : Out State := .next s

/-- HALT (R291): with ime false PC skips one byte, which is not read (D24). -/
def halt (s : State) : Out State := .next { s with halted := true, pc := if s.ime then s.pc else s.pc + 1 }

/-- STOP (R292); the fetch has read the second byte where STOP_LEN is 2. -/
def stop (s : State) : Out State := .next { s with stopped := true }

/-- DI and EI (R293, R294): ime changes at once (70_reset_and_hazards.md R348). -/
def setIme (b : Bool) (s : State) : Out State := .next { s with ime := b }

/-! ## One meaning per row of the opcode table -/

/-- NOP (R290). -/
def execNop (s : State) : Out State := nop s

/-- STOP (R292). -/
def execStop (s : State) : Out State := stop s

/-- HALT (R291). -/
def execHalt (s : State) : Out State := halt s

/-- DI (R293). -/
def execDi (s : State) : Out State := setIme false s

/-- EI (R294). -/
def execEi (s : State) : Out State := setIme true s

end Sys2Proof.Machine
end

