-- ==== Sys2Proof/Machine/Fetch.lean ====
section
/-! DEFINITION. Instruction fetch (30_encoding.md R89, R90): the opcode byte, for CB the CB-page byte, then the operand
bytes in order, each read advancing PC. The first byte that cannot be read is the step's fault, and after an unused opcode
nothing more is fetched (60_exceptions.md R313). -/

namespace Sys2Proof.Machine

/-- `Fetch8()` (30_encoding.md R90). -/
def fetch8 (s : State) : Out (Byte × State) :=
  andThen (memRead s s.pc) fun b => .next (b, { s with pc := s.pc + 1 })

/-- `Fetch16()` (R90): the low byte first. -/
def fetch16 (s : State) : Out (Word × State) :=
  andThen (fetch8 s) fun r1 => andThen (fetch8 r1.2) fun r2 => .next (join r2.1 r1.1, r2.2)

/-- Fetch the bytes that follow an opcode byte, and name the instruction. -/
def fetchOperands (shape : Shape) (s : State) : Out (Instr × State) :=
  match shape with
  | .plain φ => .next (instrOf φ, s)
  | .imm8 mk => andThen (fetch8 s) fun r => .next (instrOf (mk r.1), r.2)
  | .imm16 mk => andThen (fetch16 s) fun r => .next (instrOf (mk r.1), r.2)
  | .cbPage => andThen (fetch8 s) fun r => .next (instrOf (decodeCB r.1), r.2)
  | .stop =>
    match s.params.stopLen with
    | .one => .next (.stop, s)
    | .two => andThen (fetch8 s) fun r => .next (.stop, r.2)

/-- Fetch one whole instruction: which it is, and the state with PC after it. -/
def fetchInstr (s : State) : Out (Instr × State) :=
  andThen (fetch8 s) fun r => fetchOperands (decodeMain r.1) r.2

/-- The `n` bytes from address `addr` on, at consecutive wrapped addresses (R80). -/
def readBytes (s : State) (addr : Word) : Nat → Out (List Byte)
  | 0 => .next []
  | n + 1 => andThen (memRead s addr) fun b => andThen (readBytes s (addr + 1) n) fun bs => .next (b :: bs)

/-- The state with a list of bytes stored from address `addr` on; a byte whose address names no cell is left out. -/
def loadBytes (s : State) (addr : Word) : List Byte → State
  | [] => s
  | b :: bs =>
    match memWrite s addr b with
    | .next s1 => loadBytes s1 (addr + 1) bs
    | .fault _ => loadBytes s (addr + 1) bs
    | .refused _ => loadBytes s (addr + 1) bs

end Sys2Proof.Machine
end

