-- ==== Sys2Proof/Machine/Step.lean ====
section
/-! DEFINITION. One step (30_encoding.md R89): fetch an instruction, then execute it on the state with PC after it. The
step runs the same way whatever halted and stopped hold (45_system.md R297). -/

namespace Sys2Proof.Machine

/-- `step()` (10_state.md R30, 30_encoding.md R89). -/
def step (s : State) : Host.Outcome State Fault Refusal := andThen (fetchInstr s) fun r => exec r.1 r.2

/-- The state with the instruction the opcode table numbers as `w` stored where the next step fetches: at PC, through the
attached memory. This is how a program comes to run: the host loads it from outside the machine (log 7). -/
def State.withFetchWord (s : State) (nbits w : Nat) : State := loadBytes s s.pc (tableBytes nbits w)

end Sys2Proof.Machine
end

