-- ==== Sys2Proof/Machine/HostInterface.lean ====
section
/-! DEFINITION. What the host may do to the core between steps (10_state.md R30, R31): construct, reset, attach, read and
write registers, read the flags and the state bits, write ime; build flat stores and routers (20_memory.md R50 to R57);
launch a run and end it (70_reset_and_hazards.md R344, 60_exceptions.md R318). -/

namespace Sys2Proof.Machine

/-! ## The core -/

/-- A newly constructed core: the reset state with no memory attached and no store built (70_reset_and_hazards.md
R341). -/
def constructed (params : Params) : State := State.resetOver [] none params

/-- `reset()` (R340): memory and what is attached are not touched (R342). -/
def hostReset (s : State) : State := State.resetOver s.stores s.attached s.params

/-- `attach(memory)` (10_state.md R30, 20_memory.md R58). -/
def hostAttach (s : State) (p : Port) : State := { s with attached := some p }

/-- What `registers()` can read or write: any 8-bit register, pair, SP or PC (10_state.md R30). -/
inductive RegName where
  | a | f | b | c | d | e | h | l
  | af | bc | de | hl | sp | pc
  deriving DecidableEq, Repr

/-- A register read by the host, as a word; an 8-bit register is zero-extended. -/
def hostRead (s : State) : RegName → Word
  | .a => s.a.setWidth 16
  | .f => s.f.setWidth 16
  | .b => s.b.setWidth 16
  | .c => s.c.setWidth 16
  | .d => s.d.setWidth 16
  | .e => s.e.setWidth 16
  | .h => s.h.setWidth 16
  | .l => s.l.setWidth 16
  | .af => s.af
  | .bc => s.bc
  | .de => s.de
  | .hl => s.hl
  | .sp => s.sp
  | .pc => s.pc

/-- A register written by the host. A byte register takes the low byte of `v`; a write of F or AF follows F_LOW_POLICY
(10_state.md R23, R30). -/
def hostWrite (s : State) (r : RegName) (v : Word) : State :=
  match r with
  | .a => { s with a := lo v }
  | .f => writeF s (lo v)
  | .b => { s with b := lo v }
  | .c => { s with c := lo v }
  | .d => { s with d := lo v }
  | .e => { s with e := lo v }
  | .h => { s with h := lo v }
  | .l => { s with l := lo v }
  | .af => writeStackPair s .af v
  | .bc => writePair s .bc v
  | .de => writePair s .de v
  | .hl => writePair s .hl v
  | .sp => { s with sp := v }
  | .pc => { s with pc := v }

/-- `flag(k)`, as 0 or 1 (10_state.md R24, R30). -/
def hostFlag (s : State) (k : Flag) : Nat := (s.flag k).toNat

/-- `set_ime(b)` (R30). The host has no write of halted or stopped (D14). -/
def hostSetIme (s : State) (b : Bool) : State := { s with ime := b }

/-! ## Memory -/

/-- Construct a flat store of `n` bytes with the given contents, as the next store number (20_memory.md R50). -/
def hostNewStore (s : State) (n : Nat) (cells : Memory) : State := { s with stores := s.stores ++ [⟨n, cells⟩] }

/-- `is_valid(a)` of a byte-addressable object (R50, R56). -/
def hostIsValid (s : State) (p : Port) (a : Nat) : Bool :=
  match p with
  | .flat k =>
    match s.stores[k]? with
    | none => false
    | some st => st.isValid a
  | .router entries => routerIsValid a entries

/-- `size()` of a flat store (R50), none where there is no store of that number. -/
def hostStoreSize (s : State) (k : Nat) : Option Nat := (s.stores[k]?).map FlatStore.size

/-- `read(a)` of a byte-addressable object (R50, R55). -/
def hostPeek (s : State) (p : Port) (a : Nat) : Out Byte := andThen (cellIn s.stores p a) fun c => .next (s.byteAt c)

/-- `write(a, v)` of a byte-addressable object (R50, R55). -/
def hostPoke (s : State) (p : Port) (a : Nat) (v : Byte) : Out State :=
  andThen (cellIn s.stores p a) fun c => .next (s.setByte c v)

/-! ## Runs -/

/-- The visible CPU states (45_system.md R296). Both bits set is Stopped (D22). -/
inductive RunState where
  | running | halted | stopped
  deriving DecidableEq, Repr

/-- The run state of a machine (R296). -/
def State.runState (s : State) : RunState := if s.stopped then .stopped else if s.halted then .halted else .running

/-- What the host may set before a run starts (70_reset_and_hazards.md R344). -/
structure Launch where
  a : Byte
  f : Byte
  b : Byte
  c : Byte
  d : Byte
  e : Byte
  h : Byte
  l : Byte
  sp : Word
  pc : Word
  ime : Bool
  deriving DecidableEq, Repr

/-- The launch state of a run (R344): the reset state over the memory of `s`, then the host's assignments. -/
def launch (s : State) (v : Launch) : State :=
  { hostReset s with
    a := v.a
    f := fWritten s.params.fLow v.f
    b := v.b
    c := v.c
    d := v.d
    e := v.e
    h := v.h
    l := v.l
    sp := v.sp
    pc := v.pc
    ime := v.ime }

/-- How a run ends (60_exceptions.md R318). -/
inductive RunEnd where
  /-- a step faulted; the final state is the state before it -/
  | faulted (r : Fault) (final : State)
  /-- a step left stopped set; the final state is the state after it -/
  | stopped (final : State)
  /-- the host's bound on the number of steps was reached -/
  | bound (final : State)
  /-- the model gave a step no outcome; the state is the one before it -/
  | refused (r : Refusal) (final : State)
  deriving DecidableEq, Repr

/-- A run of at most `n` steps (R318). HALT does not end it (45_system.md R297). -/
def run : Nat → State → RunEnd
  | 0, s => .bound s
  | n + 1, s =>
    match step s with
    | .fault r => .faulted r s
    | .refused r => .refused r s
    | .next t => if t.stopped then .stopped t else run n t

/-- The number of a fault (R310, D9). No instruction and no register holds it. -/
def Fault.code : Fault → Nat
  | .invalidAddress _ => 1
  | .unmappedAddress _ => 2
  | .unknownOpcode _ => 3
  | .overlappingMap _ => 4
  | .mismatchedRangeSize _ _ => 5

end Sys2Proof.Machine
end

