-- ==== Sys2Proof/Safety.lean ====
section
/-! DEFINITION. What a good state and a safe run are, in the terms the statements use. -/

namespace Sys2Proof.Machine

/-- Bits 3:0 of F are 0 where F_LOW_POLICY is Zero (10_state.md R23). -/
def State.fLowOk (s : State) : Bool :=
  match s.params.fLow with
  | .preserve => true
  | .zero => decide (s.f &&& 0x0F = 0)

/-- The attached memory, if there is one, is a configuration `map` accepted over stores that exist (R54, R323). -/
def State.attachedOk (s : State) : Bool :=
  match s.attached with
  | none => true
  | some p => p.wf s.stores.length

/-- The invariant of the machine: every flat store is in canonical form and lists valid addresses only, the attached
memory is well formed, and F obeys F_LOW_POLICY. -/
def State.wf (s : State) : Bool := (s.stores.all FlatStore.wf) && s.attachedOk && s.fLowOk

/-- The sizes of the flat stores: with `attached` and `params`, what is fixed for a run (10_state.md R33). -/
def State.sizes (s : State) : List Nat := s.stores.map FlatStore.size

/-- A CPU address that names an existing cell. -/
def State.Addressable (s : State) (addr : Word) : Prop := ∃ c, s.cell addr = .next c

/-- The step answers a next state. -/
def Completes (s : State) : Prop := ∃ t, step s = .next t

/-- `bs` decodes to `i` and nothing more, whatever follows it and whatever STOP_LEN is. -/
def Decodes (bs : List Byte) (i : Instr) : Prop :=
  ∀ (sl : StopLen) (rest : List Byte), decode sl (bs ++ rest) = .ok (i, rest)

/-- Apply a function to the value of an outcome. -/
def mapOut {α β : Type} (f : α → β) (o : Out α) : Out β := andThen o fun v => .next (f v)

/-- The entries of a router as a list, in registration order. -/
def entriesOf : MapList → List (Port × AddrRange × AddrRange)
  | .nil => []
  | .cons b t l rest => (b, t, l) :: entriesOf rest

/-! ## What the statements say an instruction does

Each of these says that `exec` answers a next state and what that state is, in the arithmetic of the spec and not in the
model's own units. -/

/-- F after an instruction that writes its flags: the four flags as given, bits 3:0 as before (10_state.md R23, R24). -/
def FlagsAre (old new : Byte) (z n h c : Bool) : Prop :=
  flagOf new .z = z ∧ flagOf new .n = n ∧ flagOf new .h = h ∧ flagOf new .c = c ∧ new &&& 0x0F = old &&& 0x0F

/-- `i` completes, A becomes `res`, the flags become as given, and nothing else changes. -/
def SetsA (i : Instr) (s : State) (res : Byte) (z n h c : Bool) : Prop :=
  ∃ f', FlagsAre s.f f' z n h c ∧ exec i s = .next { s with a := res, f := f' }

/-- `i` adds `v` and a carry-in to A (40_alu8.md R120). -/
def AddsToA (i : Instr) (s : State) (v : Byte) (cin : Bool) : Prop :=
  SetsA i s (BitVec.ofNat 8 (s.a.toNat + v.toNat + cin.toNat))
    (decide ((s.a.toNat + v.toNat + cin.toNat) % 256 = 0)) false
    (decide (s.a.toNat % 16 + v.toNat % 16 + cin.toNat > 0x0F))
    (decide (s.a.toNat + v.toNat + cin.toNat > 0xFF))

/-- `i` subtracts `v` and a borrow-in from A (R121). -/
def SubtractsFromA (i : Instr) (s : State) (v : Byte) (cin : Bool) : Prop :=
  SetsA i s (BitVec.ofInt 8 ((s.a.toNat : Int) - v.toNat - cin.toNat))
    (decide (((s.a.toNat : Int) - v.toNat - cin.toNat) % 256 = 0)) true
    (decide (s.a.toNat % 16 < v.toNat % 16 + cin.toNat))
    (decide (s.a.toNat < v.toNat + cin.toNat))

/-- An instruction with a slot operand that it only reads: on every register, and on the byte at HL where its cell
exists; where the address has none, the fault is the port's (30_encoding.md R84). -/
def OnOperand (op : Slot → Instr) (P : Instr → State → Byte → Prop) : Prop :=
  (∀ (r : Reg8) (s : State), P (op (.reg r)) s (readReg s r)) ∧
  (∀ (s : State) (c : CellRef), s.cell s.hl = .next c → P (op .atHL) s (s.byteAt c)) ∧
  (∀ (s : State) (f : Fault), s.cell s.hl = .fault f → exec (op .atHL) s = .fault f)

/-- An instruction that reads a slot, writes a result to the same slot and then writes its flags, and changes nothing
else; a fault of the access is the instruction's fault. -/
def SlotBecomes (op : Slot → Instr) (res : State → Byte → Byte) (z n h c : State → Byte → Bool) : Prop :=
  (∀ (r : Reg8) (s : State), ∃ f',
    FlagsAre s.f f' (z s (readReg s r)) (n s (readReg s r)) (h s (readReg s r)) (c s (readReg s r)) ∧
    exec (op (.reg r)) s = .next { writeReg s r (res s (readReg s r)) with f := f' }) ∧
  (∀ (s : State) (k : CellRef), s.cell s.hl = .next k → ∃ f',
    FlagsAre s.f f' (z s (s.byteAt k)) (n s (s.byteAt k)) (h s (s.byteAt k)) (c s (s.byteAt k)) ∧
    exec (op .atHL) s = .next { s.setByte k (res s (s.byteAt k)) with f := f' }) ∧
  (∀ (s : State) (f : Fault), s.cell s.hl = .fault f → exec (op .atHL) s = .fault f)

/-- A rotate or shift of a slot with result `res` and carry out `co`: flags `Z 0 0 C` (42_rotate_shift_bit.md section
3). -/
def ShiftsSlot (op : Slot → Instr) (res : State → Byte → Byte) (co : Byte → Bool) : Prop :=
  SlotBecomes op res (fun s v => decide (res s v = 0)) (fun _ _ => false) (fun _ _ => false) (fun _ v => co v)

/-- `w` is `v` with bit `k` set to `b`. -/
def BitPut (v w : Byte) (k : Nat) (b : Bool) : Prop := ∀ j < 8, w.getLsbD j = if j = k then b else v.getLsbD j

/-- An instruction that writes one bit of a slot and no flag (R203 to R206). -/
def PutsBit (op : Slot → Instr) (k : Nat) (b : Bool) : Prop :=
  (∀ (r : Reg8) (s : State), ∃ w, BitPut (readReg s r) w k b ∧ exec (op (.reg r)) s = .next (writeReg s r w)) ∧
  (∀ (s : State) (c : CellRef), s.cell s.hl = .next c →
    ∃ w, BitPut (s.byteAt c) w k b ∧ exec (op .atHL) s = .next (s.setByte c w)) ∧
  (∀ (s : State) (f : Fault), s.cell s.hl = .fault f → exec (op .atHL) s = .fault f)

/-- An instruction that stores one byte at an address and then updates registers; a fault of the access is its fault. -/
def StoresByte (i : Instr) (addr : State → Word) (v : State → Byte) (post : State → State) : Prop :=
  (∀ (s : State) (c : CellRef), s.cell (addr s) = .next c → exec i s = .next (post (s.setByte c (v s)))) ∧
  (∀ (s : State) (f : Fault), s.cell (addr s) = .fault f → exec i s = .fault f)

/-- An instruction that loads one byte from an address into registers; a fault of the access is its fault. -/
def LoadsByte (i : Instr) (addr : State → Word) (post : State → Byte → State) : Prop :=
  (∀ (s : State) (c : CellRef), s.cell (addr s) = .next c → exec i s = .next (post s (s.byteAt c))) ∧
  (∀ (s : State) (f : Fault), s.cell (addr s) = .fault f → exec i s = .fault f)

/-- An instruction that, where `on` holds, pushes a word and then updates registers (20_memory.md R66): the high byte at
SP - 1, the low byte at SP - 2; the first failing write is its fault. -/
def Pushes (i : Instr) (on : State → Prop) (w : State → Word) (post : State → State) : Prop :=
  (∀ (s : State) (c1 c2 : CellRef), on s → s.cell (s.sp - 1) = .next c1 → s.cell (s.sp - 2) = .next c2 →
    exec i s = .next (post { (s.setByte c1 (hi (w s))).setByte c2 (lo (w s)) with sp := s.sp - 2 })) ∧
  (∀ (s : State) (f : Fault), on s → s.cell (s.sp - 1) = .fault f → exec i s = .fault f) ∧
  (∀ (s : State) (c1 : CellRef) (f : Fault), on s → s.cell (s.sp - 1) = .next c1 → s.cell (s.sp - 2) = .fault f →
    exec i s = .fault f)

/-- An instruction that, where `on` holds, pops a word and then updates registers (R67): the low byte from SP, the high
byte from SP + 1; the first failing read is its fault. -/
def Pops (i : Instr) (on : State → Prop) (post : State → Word → State) : Prop :=
  (∀ (s : State) (c1 c2 : CellRef), on s → s.cell s.sp = .next c1 → s.cell (s.sp + 1) = .next c2 →
    exec i s = .next (post { s with sp := s.sp + 2 } (join (s.byteAt c2) (s.byteAt c1)))) ∧
  (∀ (s : State) (f : Fault), on s → s.cell s.sp = .fault f → exec i s = .fault f) ∧
  (∀ (s : State) (c1 : CellRef) (f : Fault), on s → s.cell s.sp = .next c1 → s.cell (s.sp + 1) = .fault f →
    exec i s = .fault f)

/-- The 11 unused main-page values (30_encoding.md R86). -/
def unusedOpcodes : List Byte := [0xD3, 0xDB, 0xDD, 0xE3, 0xE4, 0xEB, 0xEC, 0xED, 0xF4, 0xFC, 0xFD]

/-- A decimal number below 100 as two BCD digits. -/
def bcd (n : Nat) : Byte := BitVec.ofNat 8 (n / 10 * 16 + n % 10)

/-! ## What a form touches, computed from the state its meaning runs on -/

/-- The two bytes a push writes (20_memory.md R66). -/
def pushAddrs (s : State) : List Word := [s.sp - 1, s.sp - 1 - 1]

/-- The two bytes a pop reads (R67). -/
def popAddrs (s : State) : List Word := [s.sp, s.sp + 1]

/-- The address a slot accesses (30_encoding.md R84). -/
def slotAddrs (s : State) : Slot → List Word
  | .reg _ => []
  | .atHL => [s.hl]

/-- The addresses a form stores to, in order. -/
def formStores (s : State) : Form → List Word
  | .inc t => slotAddrs s t
  | .dec t => slotAddrs s t
  | .shift _ t => slotAddrs s t
  | .res _ t => slotAddrs s t
  | .set _ t => slotAddrs s t
  | .ldStore _ => [s.hl]
  | .ldImm t _ => slotAddrs s t
  | .ldToInd i => [indirectAddr s i]
  | .ldhStore n => [highPage n]
  | .ldCStore => [highPage s.c]
  | .ldAbsStore a => [a]
  | .ldAbsSP a => [a, a + 1]
  | .push _ => pushAddrs s
  | .call _ => pushAddrs s
  | .callIf cc _ => if condHolds s cc then pushAddrs s else []
  | .rst _ => pushAddrs s
  | .alu _ _ | .aluImm _ _ | .daa | .cpl | .scf | .ccf | .addHL _ | .incPair _ | .decPair _ | .addSP _
  | .ldHLSP _ | .rotA _ | .bit _ _ | .ldReg _ _ | .ldPair _ _ | .ldFromInd _ | .ldhLoad _ | .ldCLoad
  | .ldAbsLoad _ | .ldSPHL | .pop _ | .jp _ | .jpIf _ _ | .jpHL | .jr _ | .jrIf _ _ | .ret | .retIf _ | .reti
  | .nop | .halt | .stop | .di | .ei | .unused _ => []

/-- The addresses a form reads data from, in order. -/
def formLoads (s : State) : Form → List Word
  | .alu _ t => slotAddrs s t
  | .inc t => slotAddrs s t
  | .dec t => slotAddrs s t
  | .shift _ t => slotAddrs s t
  | .bit _ t => slotAddrs s t
  | .res _ t => slotAddrs s t
  | .set _ t => slotAddrs s t
  | .ldReg _ t => slotAddrs s t
  | .ldFromInd i => [indirectAddr s i]
  | .ldhLoad n => [highPage n]
  | .ldCLoad => [highPage s.c]
  | .ldAbsLoad a => [a]
  | .pop _ => popAddrs s
  | .ret => popAddrs s
  | .retIf cc => if condHolds s cc then popAddrs s else []
  | .reti => popAddrs s
  | .aluImm _ _ | .daa | .cpl | .scf | .ccf | .addHL _ | .incPair _ | .decPair _ | .addSP _ | .ldHLSP _
  | .rotA _ | .ldStore _ | .ldImm _ _ | .ldPair _ _ | .ldToInd _ | .ldhStore _ | .ldCStore | .ldAbsStore _
  | .ldAbsSP _ | .ldSPHL | .push _ | .jp _ | .jpIf _ _ | .jpHL | .jr _ | .jrIf _ _ | .call _ | .callIf _ _
  | .rst _ | .nop | .halt | .stop | .di | .ei | .unused _ => []

/-- The data accesses of a form in the order its rule makes them (60_exceptions.md R313): reads before writes. -/
def formAccesses (s : State) (φ : Form) : List Word := formLoads s φ ++ formStores s φ

/-- The data registers of a pair of table rp. -/
def pairHalves : Pair → List Reg8
  | .bc => [.b, .c]
  | .de => [.d, .e]
  | .hl => [.h, .l]
  | .sp => []

/-- The data registers of a pair of table rp2. -/
def stackPairHalves : StackPair → List Reg8
  | .bc => [.b, .c]
  | .de => [.d, .e]
  | .hl => [.h, .l]
  | .af => [.a]

/-- The data registers a slot names. -/
def slotRegs : Slot → List Reg8
  | .reg r => [r]
  | .atHL => []

/-- The data registers a memory-indirect form moves (44_loads_stack.md section 4). -/
def indirectRegs : Indirect → List Reg8
  | .bc => []
  | .de => []
  | .hlInc => [.h, .l]
  | .hlDec => [.h, .l]

/-- The data registers a form may change (10_state.md R22). -/
def formDests : Form → List Reg8
  | .alu op _ => if op = .cp then [] else [.a]
  | .aluImm op _ => if op = .cp then [] else [.a]
  | .inc t => slotRegs t
  | .dec t => slotRegs t
  | .daa => [.a]
  | .cpl => [.a]
  | .addHL _ => [.h, .l]
  | .incPair rr => pairHalves rr
  | .decPair rr => pairHalves rr
  | .ldHLSP _ => [.h, .l]
  | .rotA _ => [.a]
  | .shift _ t => slotRegs t
  | .res _ t => slotRegs t
  | .set _ t => slotRegs t
  | .ldReg r _ => [r]
  | .ldImm t _ => slotRegs t
  | .ldPair rr _ => pairHalves rr
  | .ldToInd i => indirectRegs i
  | .ldFromInd i => .a :: indirectRegs i
  | .ldhLoad _ => [.a]
  | .ldCLoad => [.a]
  | .ldAbsLoad _ => [.a]
  | .pop rr => stackPairHalves rr
  | .scf | .ccf | .addSP _ | .bit _ _ | .ldStore _ | .ldhStore _ | .ldCStore | .ldAbsStore _ | .ldAbsSP _
  | .ldSPHL | .push _ | .jp _ | .jpIf _ _ | .jpHL | .jr _ | .jrIf _ _ | .call _ | .callIf _ _ | .ret
  | .retIf _ | .reti | .rst _ | .nop | .halt | .stop | .di | .ei | .unused _ => []

/-- The forms that may change SP (R22). -/
def formWritesSP : Form → Bool
  | .incPair rr => decide (rr = .sp)
  | .decPair rr => decide (rr = .sp)
  | .addSP _ => true
  | .ldPair rr _ => decide (rr = .sp)
  | .ldSPHL => true
  | .push _ => true
  | .pop _ => true
  | .call _ => true
  | .callIf _ _ => true
  | .ret => true
  | .retIf _ => true
  | .reti => true
  | .rst _ => true
  | .alu _ _ | .aluImm _ _ | .inc _ | .dec _ | .daa | .cpl | .scf | .ccf | .addHL _ | .ldHLSP _ | .rotA _
  | .shift _ _ | .bit _ _ | .res _ _ | .set _ _ | .ldReg _ _ | .ldStore _ | .ldImm _ _ | .ldToInd _
  | .ldFromInd _ | .ldhStore _ | .ldhLoad _ | .ldCStore | .ldCLoad | .ldAbsStore _ | .ldAbsLoad _
  | .ldAbsSP _ | .jp _ | .jpIf _ _ | .jpHL | .jr _ | .jrIf _ _ | .nop | .halt | .stop | .di | .ei | .unused _ => false

/-- The forms that may change PC besides the fetch (10_state.md R28): control transfers, and HALT. -/
def formWritesPC : Form → Bool
  | .jp _ => true
  | .jpIf _ _ => true
  | .jpHL => true
  | .jr _ => true
  | .jrIf _ _ => true
  | .call _ => true
  | .callIf _ _ => true
  | .ret => true
  | .retIf _ => true
  | .reti => true
  | .rst _ => true
  | .halt => true
  | .alu _ _ | .aluImm _ _ | .inc _ | .dec _ | .daa | .cpl | .scf | .ccf | .addHL _ | .incPair _ | .decPair _
  | .addSP _ | .ldHLSP _ | .rotA _ | .shift _ _ | .bit _ _ | .res _ _ | .set _ _ | .ldReg _ _ | .ldStore _
  | .ldImm _ _ | .ldPair _ _ | .ldToInd _ | .ldFromInd _ | .ldhStore _ | .ldhLoad _ | .ldCStore | .ldCLoad
  | .ldAbsStore _ | .ldAbsLoad _ | .ldAbsSP _ | .ldSPHL | .push _ | .pop _ | .nop | .stop | .di | .ei
  | .unused _ => false

/-- The flags a form may change: the columns of the opcode table's flag string that are not `-` (00_scope.md R11). -/
def formFlags : Form → List Flag
  | .alu _ _ => [.z, .n, .h, .c]
  | .aluImm _ _ => [.z, .n, .h, .c]
  | .inc _ => [.z, .n, .h]
  | .dec _ => [.z, .n, .h]
  | .daa => [.z, .h, .c]
  | .cpl => [.n, .h]
  | .scf => [.n, .h, .c]
  | .ccf => [.n, .h, .c]
  | .addHL _ => [.n, .h, .c]
  | .addSP _ => [.z, .n, .h, .c]
  | .ldHLSP _ => [.z, .n, .h, .c]
  | .rotA _ => [.z, .n, .h, .c]
  | .shift _ _ => [.z, .n, .h, .c]
  | .bit _ _ => [.z, .n, .h]
  | .pop rr => if rr = .af then [.z, .n, .h, .c] else []
  | .incPair _ | .decPair _ | .res _ _ | .set _ _ | .ldReg _ _ | .ldStore _ | .ldImm _ _ | .ldPair _ _
  | .ldToInd _ | .ldFromInd _ | .ldhStore _ | .ldhLoad _ | .ldCStore | .ldCLoad | .ldAbsStore _
  | .ldAbsLoad _ | .ldAbsSP _ | .ldSPHL | .push _ | .jp _ | .jpIf _ _ | .jpHL | .jr _ | .jrIf _ _ | .call _
  | .callIf _ _ | .ret | .retIf _ | .reti | .rst _ | .nop | .halt | .stop | .di | .ei | .unused _ => []

/-- The forms of the unused opcodes. -/
def formIsUnused : Form → Bool
  | .unused _ => true
  | .alu _ _ | .aluImm _ _ | .inc _ | .dec _ | .daa | .cpl | .scf | .ccf | .addHL _ | .incPair _ | .decPair _
  | .addSP _ | .ldHLSP _ | .rotA _ | .shift _ _ | .bit _ _ | .res _ _ | .set _ _ | .ldReg _ _ | .ldStore _
  | .ldImm _ _ | .ldPair _ _ | .ldToInd _ | .ldFromInd _ | .ldhStore _ | .ldhLoad _ | .ldCStore | .ldCLoad
  | .ldAbsStore _ | .ldAbsLoad _ | .ldAbsSP _ | .ldSPHL | .push _ | .pop _ | .jp _ | .jpIf _ _ | .jpHL
  | .jr _ | .jrIf _ _ | .call _ | .callIf _ _ | .ret | .retIf _ | .reti | .rst _ | .nop | .halt | .stop | .di
  | .ei => false

end Sys2Proof.Machine
end

