-- ==== Sys2Proof/Certificates/Slice0/Obligations.lean ====
section
/-! DEFINITION. The statements for the provers. Each docstring names the rules of spec/ it formalises. A statement of
what an instruction does is about the state after the fetch, whose PC is the address after the instruction (30_encoding.md
R90); `StepRunsDecodedInstruction` is what joins it to a step. `Decodes bs i` in a statement is the rule's Encoding
line. -/

open Sys2Proof Sys2Proof.Machine

/-! ## Encoding -/

/-- The bytes written for an instruction decode to it, whatever follows them, under either STOP_LEN (30_encoding.md R81,
R93 to R99). -/
def Obligations.EncodedInstructionDecodesBack : Prop :=
  ∀ (sl : StopLen) (i : Instr) (rest : List Byte), decode sl (encode sl i ++ rest) = .ok (i, rest)

/-- What decodes to an instruction is its encoding: no two byte strings stand for one instruction, but for the byte after
0x10 in a two-byte STOP, which is ignored (R81, 45_system.md R292). The value the encoder writes for that byte is the
model's choice (log 8), and the statement says nothing of it. -/
def Obligations.DecodedBytesAreTheEncoding : Prop :=
  ∀ (sl : StopLen) (bs : List Byte) (i : Instr) (rest : List Byte), decode sl bs = .ok (i, rest) →
    ∃ used, bs = used ++ rest ∧ used.length = (encode sl i).length ∧ used.head? = (encode sl i).head? ∧
      (i ≠ .stop → used = encode sl i)

/-- The decoder is total on bytes, and the first byte alone decides the length (R80, R91). -/
def Obligations.DecoderIsTotalAndLengthIsByFirstByte : Prop :=
  ∀ (sl : StopLen) (op : Byte) (rest : List Byte),
    1 ≤ instrLength sl op ∧ instrLength sl op ≤ 3 ∧ instrLength sl 0xCB = 2 ∧
    (instrLength sl op ≤ rest.length + 1 →
      ∃ i, decode sl (op :: rest) = .ok (i, rest.drop (instrLength sl op - 1)) ∧
        ((∃ u, i = unusedInstr u) ↔ op ∈ unusedOpcodes)) ∧
    (rest.length + 1 < instrLength sl op → decode sl (op :: rest) = .error .truncated)

/-- The CB page is uniform: the high five bits choose the operation, the low three the slot (R83, R87). -/
def Obligations.CbPageIsUniform : Prop :=
  (∀ (i : Slot), Decodes [0xCB, BitVec.ofNat 8 (0x00 + i.code)] (shiftInstr .rlc i) ∧
    Decodes [0xCB, BitVec.ofNat 8 (0x08 + i.code)] (shiftInstr .rrc i) ∧
    Decodes [0xCB, BitVec.ofNat 8 (0x10 + i.code)] (shiftInstr .rl i) ∧
    Decodes [0xCB, BitVec.ofNat 8 (0x18 + i.code)] (shiftInstr .rr i) ∧
    Decodes [0xCB, BitVec.ofNat 8 (0x20 + i.code)] (shiftInstr .sla i) ∧
    Decodes [0xCB, BitVec.ofNat 8 (0x28 + i.code)] (shiftInstr .sra i) ∧
    Decodes [0xCB, BitVec.ofNat 8 (0x30 + i.code)] (shiftInstr .swap i) ∧
    Decodes [0xCB, BitVec.ofNat 8 (0x38 + i.code)] (shiftInstr .srl i)) ∧
  (∀ (b : Oct) (i : Slot), Decodes [0xCB, BitVec.ofNat 8 (0x40 + 8 * b.code + i.code)] (bitInstr b i) ∧
    Decodes [0xCB, BitVec.ofNat 8 (0x80 + 8 * b.code + i.code)] (resInstr b i) ∧
    Decodes [0xCB, BitVec.ofNat 8 (0xC0 + 8 * b.code + i.code)] (setInstr b i)) ∧
  (Slot.code (.reg .b) = 0 ∧ Slot.code (.reg .c) = 1 ∧ Slot.code (.reg .d) = 2 ∧ Slot.code (.reg .e) = 3 ∧
    Slot.code (.reg .h) = 4 ∧ Slot.code (.reg .l) = 5 ∧ Slot.code .atHL = 6 ∧ Slot.code (.reg .a) = 7)

/-- Words written out from the spec's encodings and examples, at least one of each family. -/
def Obligations.WordsWrittenFromTheSpecDecode : Prop :=
  Decodes [0x01, 0x10, 0xFC] (.ld_BC_n16 0xFC10) ∧ Decodes [0xC6, 0x01] (.add_A_n8 0x01) ∧
  Decodes [0xCD, 0xAA, 0x22] (.call_a16 0x22AA) ∧ Decodes [0x41] .ld_B_C ∧ Decodes [0x78] .ld_A_B ∧
  Decodes [0x76] .halt ∧ Decodes [0x0F] .rrca ∧ Decodes [0x39] .add_HL_SP ∧ Decodes [0x22] .ld_atHLinc_A ∧
  Decodes [0xE9] .jp_HL ∧ Decodes [0xF5] .push_AF ∧ Decodes [0x08, 0x00, 0xC1] (.ld_atA16_SP 0xC100) ∧
  Decodes [0xCB, 0x37] .swap_A ∧ Decodes [0xCB, 0x7C] .bit_7_H ∧ Decodes [0xCB, 0x86] .res_0_atHL ∧
  Decodes [0xCB, 0xFF] .set_7_A ∧ Decodes [0xD3] .unused_D3

/-- The 11 unused opcodes, and no other bytes, raise UnknownOpcode with the opcode byte, always and before any further
fetch (45_system.md R295, 30_encoding.md R86, 60_exceptions.md R313 item 2). -/
def Obligations.UnusedOpcodesFaultAlways : Prop :=
  (∀ (u : Unused), Decodes [u.opcode] (unusedInstr u)) ∧
  (∀ (op : Byte), (∃ u : Unused, u.opcode = op) ↔ op ∈ unusedOpcodes) ∧
  (∀ (u : Unused) (s : State), exec (unusedInstr u) s = .fault (.unknownOpcode u.opcode)) ∧
  (∀ (u : Unused) (s : State), memRead s s.pc = .next u.opcode → step s = .fault (.unknownOpcode u.opcode)) ∧
  (∀ (s : State) (op : Byte), step s = .fault (.unknownOpcode op) → memRead s s.pc = .next op ∧ op ∈ unusedOpcodes)

/-! ## The step -/

/-- When the bytes at PC are an instruction, the step is `exec` of it on the state with PC moved past its bytes
(30_encoding.md R89, R90). -/
def Obligations.StepRunsDecodedInstruction : Prop :=
  ∀ (s : State) (n : Nat) (bs : List Byte) (i : Instr), readBytes s s.pc n = .next bs →
    decode s.params.stopLen bs = .ok (i, []) → step s = exec i { s with pc := s.pc + BitVec.ofNat 16 n }

/-- After a step from PC = p, PC = p + L, unless the instruction writes PC (30_encoding.md R90, 10_state.md R28). -/
def Obligations.PcAdvancesByInstructionLength : Prop :=
  ∀ (s t : State) (n : Nat) (bs : List Byte) (φ : Form), readBytes s s.pc n = .next bs →
    decode s.params.stopLen bs = .ok (instrOf φ, []) → formWritesPC φ = false → step s = .next t →
    t.pc = s.pc + BitVec.ofNat 16 n

/-- The first instruction byte that cannot be read is the step's fault (60_exceptions.md R313 items 1 to 3). -/
def Obligations.FetchFaultIsTheFirstUnreadableByte : Prop :=
  ∀ (s : State) (n : Nat) (bs : List Byte) (f : Fault), readBytes s s.pc n = .next bs →
    (∀ op rest, bs = op :: rest → n < instrLength s.params.stopLen op) →
    memRead s (s.pc + BitVec.ofNat 16 n) = .fault f → step s = .fault f

/-- The first failing data access, in the order the instruction makes them, is its fault (R313 item 4). -/
def Obligations.DataFaultIsTheFirstFailingAccess : Prop :=
  ∀ (φ : Form) (s : State) (before after : List Word) (a : Word) (f : Fault),
    formAccesses s φ = before ++ a :: after → (∀ b ∈ before, s.Addressable b) → s.cell a = .fault f →
    exec (instrOf φ) s = .fault f

/-- Every instruction but the unused opcodes completes where the addresses it accesses exist: no instruction faults for
its arithmetic, an operand value, a mode or alignment (60_exceptions.md R310, R319; 20_memory.md R64, R69). -/
def Obligations.InstructionsCompleteWhereAddressesExist : Prop :=
  (∀ (i : Instr), ∃ φ : Form, instrOf φ = i) ∧
  (∀ (φ : Form) (s : State), formIsUnused φ = false → (∀ a ∈ formAccesses s φ, s.Addressable a) →
    ∃ t, exec (instrOf φ) s = .next t)

/-- A step of a machine with a well-formed memory attached is a next state or one of three faults, never a refusal
(60_exceptions.md R310, R324). -/
def Obligations.StepAnswersNextOrOneOfThreeFaults : Prop :=
  ∀ (s : State), s.wf = true → s.attached ≠ none →
    (∃ t, step s = .next t) ∨ (∃ a, step s = .fault (.invalidAddress a)) ∨
    (∃ a, step s = .fault (.unmappedAddress a)) ∨ (∃ op ∈ unusedOpcodes, step s = .fault (.unknownOpcode op))

/-- The step runs the same way whatever halted and stopped hold, and the bits stay set (45_system.md R297). -/
def Obligations.RunStateDoesNotChangeTheStep : Prop :=
  ∀ (s : State) (h p : Bool), step { s with halted := h, stopped := p } =
    mapOut (fun t => { t with halted := h || t.halted, stopped := p || t.stopped })
      (step { s with halted := false, stopped := false })

/-- The run-state machine: which state the two bits name, and every transition (45_system.md R296). -/
def Obligations.RunStateTransitions : Prop :=
  (∀ (s : State), (s.runState = .running ↔ s.halted = false ∧ s.stopped = false) ∧
    (s.runState = .halted ↔ s.halted = true ∧ s.stopped = false) ∧ (s.runState = .stopped ↔ s.stopped = true)) ∧
  (∀ (i : Instr) (s t : State), exec i s = .next t →
    t.halted = (s.halted || decide (i = .halt)) ∧ t.stopped = (s.stopped || decide (i = .stop))) ∧
  (∀ (s : State), (hostReset s).runState = .running) ∧
  (∀ (s : State) (r : RegName) (v : Word) (b : Bool) (p : Port), (hostWrite s r v).runState = s.runState ∧
    (hostSetIme s b).runState = s.runState ∧ (hostAttach s p).runState = s.runState) ∧
  (∀ (s : State) (f : Fault) (n : Nat), step s = .fault f → run (n + 1) s = .faulted f s)

/-- ime is written by DI, EI and RETI and by no other instruction, and HALT alone reads it (45_system.md R298, 10_state.md
R29). -/
def Obligations.ImeIsWrittenByThreeAndReadByHalt : Prop :=
  (∀ (i : Instr) (s t : State), exec i s = .next t →
    t.ime = if i = .di then false else if i = .ei ∨ i = .reti then true else s.ime) ∧
  (∀ (i : Instr) (s : State) (b : Bool), i ≠ .halt → exec i { s with ime := b } =
    mapOut (fun t => { t with ime := if i = .di then false else if i = .ei ∨ i = .reti then true else b }) (exec i s))

/-- No step changes the memory configuration, the sizes of the stores or the parameters (10_state.md R33). -/
def Obligations.StepKeepsTheConfiguration : Prop :=
  ∀ (s t : State), step s = .next t → t.attached = s.attached ∧ t.sizes = s.sizes ∧ t.params = s.params

/-- The machine's invariant is kept by every step: memory stays in canonical form and inside its stores' bounds, the
attached configuration stays one `map` accepts, and under F_LOW_POLICY = Zero bits 3:0 of F stay 0 (10_state.md R23,
20_memory.md R50, R54). -/
def Obligations.StepKeepsMachineWellFormed : Prop :=
  ∀ (s t : State), s.wf = true → step s = .next t → t.wf = true

/-- The invariant holds at the model's reset state, whose memory and parameters are the model's choice (log 1, log 2), and
after a reset over any well-formed memory. -/
def Obligations.ResetMachineIsWellFormed : Prop :=
  State.reset.wf = true ∧ ∀ (s : State), s.wf = true → (hostReset s).wf = true

/-! ## Memory -/

/-- The flat store: a read gives the last value written, a write changes one byte and not the size, and an access outside
[0, N) is the fault InvalidAddress (20_memory.md R50, R51). The byte an unlisted address reads as is not fixed here. -/
def Obligations.FlatStoreReadsLastWriteWithinBounds : Prop :=
  ∀ (st : FlatStore) (a : Nat) (v : Byte), st.wf = true →
    (a < st.size → st.isValid a = true ∧ ∃ w st', st.read a = .next w ∧ st.write a v = .next st' ∧ st'.wf = true ∧
      st'.size = st.size ∧ ∀ b, st'.read b = if b = a then .next v else st.read b) ∧
    (st.size ≤ a → st.isValid a = false ∧ st.read a = .fault (.invalidAddress a) ∧
      st.write a v = .fault (.invalidAddress a))

/-- Two memories in canonical form that read alike are equal data. The form, and the byte an unlisted address reads as,
are the model's own choice and no rule of the spec (log 2). -/
def Obligations.CanonicalMemoriesThatReadAlikeAreEqual : Prop :=
  ∀ (m m' : Memory), m.wf = true → m'.wf = true → (∀ a, m.get a = m'.get a) → m = m'

/-- A router delegates to the first entry, in registration order, whose local range contains the address; where `map`
accepted the entries, to any that does; an address in none is unmapped (20_memory.md R55, R56). -/
def Obligations.RouterDelegatesByLocalRange : Prop :=
  (∀ (s : State) (es : MapList) (a : Nat) (v : Byte),
    (∀ b t l, (entriesOf es).find? (fun e => e.2.2.contains a) = some (b, t, l) →
      hostPeek s (.router es) a = hostPeek s b (t.lo + (a - l.lo)) ∧
      hostPoke s (.router es) a v = hostPoke s b (t.lo + (a - l.lo)) v) ∧
    ((entriesOf es).find? (fun e => e.2.2.contains a) = none →
      hostPeek s (.router es) a = .fault (.unmappedAddress a) ∧
      hostPoke s (.router es) a v = .fault (.unmappedAddress a)) ∧
    (hostIsValid s (.router es) a = true ↔ ∃ e ∈ entriesOf es, e.2.2.lo ≤ a ∧ a ≤ e.2.2.hi)) ∧
  (∀ (n : Nat) (es : MapList) (a : Nat) (b : Port) (t l : AddrRange), es.wf n = true → (b, t, l) ∈ entriesOf es →
    l.contains a = true → (entriesOf es).find? (fun e => e.2.2.contains a) = some (b, t, l))

/-- `map` appends an entry, or refuses ranges of different sizes, empty or reversed ranges, and a local range that
overlaps an existing one (20_memory.md R54). Which fault is reported when two apply is the model's choice (log 5), and
the statement leaves it open. -/
def Obligations.MapRefusesOrAppends : Prop :=
  ∀ (es : MapList) (b : Port) (t l : AddrRange),
    let sizesDiffer := (t.hi : Int) - t.lo ≠ (l.hi : Int) - l.lo ∨ t.hi < t.lo ∨ l.hi < l.lo
    let overlapping := ∃ e ∈ entriesOf es, l.lo ≤ e.2.2.hi ∧ e.2.2.lo ≤ l.hi
    (¬ sizesDiffer → ¬ overlapping →
      ∃ es', routerMap es b t l = .next es' ∧ entriesOf es' = entriesOf es ++ [(b, t, l)]) ∧
    (sizesDiffer → ¬ overlapping → routerMap es b t l = .fault (.mismatchedRangeSize t l)) ∧
    (¬ sizesDiffer → overlapping → routerMap es b t l = .fault (.overlappingMap l)) ∧
    (sizesDiffer → overlapping → ∃ f, routerMap es b t l = .fault f)

/-- The CPU's port is the attached memory, and a store is seen by every later read of its cell, under whichever address,
and by no other (20_memory.md R58, R60, R70, R75). -/
def Obligations.StoreIsSeenThroughEveryAlias : Prop :=
  (∀ (s : State) (p : Port) (a : Word) (v : Byte), s.attached = some p →
    memRead s a = hostPeek s p a.toNat ∧ memWrite s a v = hostPoke s p a.toNat v) ∧
  (∀ (s : State) (a b : Word) (v : Byte) (c d : CellRef), s.wf = true → s.cell a = .next c → s.cell b = .next d →
    ∃ t, memWrite s a v = .next t ∧ t.cell b = .next d ∧
      memRead t b = if d = c then .next v else memRead s b) ∧
  (∀ (rr : StackPair) (s : State) (c : CellRef), s.wf = true → s.cell (s.sp - 1) = .next c →
    s.cell (s.sp - 2) = .next c →
    ∃ t, exec (pushInstr rr) s = .next t ∧ t.byteAt c = lo (readStackPair s rr))

/-- PUSH and then POP of the same pair restores the pair and SP and changes no other register or flag, where the two stack
addresses are different cells (44_loads_stack.md R273, R274). -/
def Obligations.PushThenPopRestores : Prop :=
  ∀ (rr : StackPair) (s : State) (c1 c2 : CellRef), s.wf = true → s.cell (s.sp - 1) = .next c1 →
    s.cell (s.sp - 2) = .next c2 → c1 ≠ c2 →
    ∃ t, exec (pushInstr rr) s = .next t ∧ exec (popInstr rr) t = .next { s with stores := t.stores }

/-- CALL or RST, and then RET from any state that kept SP and memory, continues after the call with SP as before it
(43_control.md R226, R228, R231). -/
def Obligations.CallThenReturnContinuesAfterTheCall : Prop :=
  ∀ (i : Instr) (s u : State) (c1 c2 : CellRef), s.wf = true → ((∃ a, i = .call_a16 a) ∨ ∃ y, i = rstInstr y) →
    s.cell (s.sp - 1) = .next c1 → s.cell (s.sp - 2) = .next c2 → c1 ≠ c2 →
    ∃ t, exec i s = .next t ∧ (u.sp = t.sp → u.stores = t.stores → u.attached = t.attached →
      exec .ret u = .next { u with pc := s.pc, sp := s.sp })

/-! ## 8-bit arithmetic and logic -/

/-- The adder, the subtracter and the logic unit (40_alu8.md R120 to R122): carry and borrow complete the exact result. -/
def Obligations.AdderSubtracterAndLogicUnit : Prop :=
  (∀ (a v : Byte) (cin : Bool),
    (add8 a v cin).res.toNat + 256 * (add8 a v cin).c.toNat = a.toNat + v.toNat + cin.toNat ∧
    (add8 a v cin).h.toNat = (a.toNat % 16 + v.toNat % 16 + cin.toNat) / 16 ∧
    ((add8 a v cin).z = true ↔ (add8 a v cin).res = 0) ∧ (add8 a v cin).n = false) ∧
  (∀ (a v : Byte) (cin : Bool),
    ((sub8 a v cin).res.toNat : Int) - 256 * ((sub8 a v cin).c.toNat : Int) =
      (a.toNat : Int) - v.toNat - cin.toNat ∧
    ((sub8 a v cin).h = true ↔ ((a.toNat % 16 : Nat) : Int) - (v.toNat % 16 : Nat) - cin.toNat < 0) ∧
    ((sub8 a v cin).z = true ↔ (sub8 a v cin).res = 0) ∧ (sub8 a v cin).n = true) ∧
  (∀ (a v : Byte) (cin : Bool) (k : Nat),
    (aluResult .and a v cin).res.getLsbD k = (a.getLsbD k && v.getLsbD k) ∧
    (aluResult .xor a v cin).res.getLsbD k = (a.getLsbD k != v.getLsbD k) ∧
    (aluResult .or a v cin).res.getLsbD k = (a.getLsbD k || v.getLsbD k)) ∧
  (∀ (op : AluOp) (a v : Byte) (cin : Bool), op = .and ∨ op = .xor ∨ op = .or →
    ((aluResult op a v cin).z = true ↔ (aluResult op a v cin).res = 0) ∧ (aluResult op a v cin).n = false ∧
    (aluResult op a v cin).h = decide (op = .and) ∧ (aluResult op a v cin).c = false)

/-- ADD and ADC, every operand form (R123 to R128). -/
def Obligations.AddAndAdcWriteSumAndFlags : Prop :=
  (OnOperand (aluInstr .add) fun i s v => AddsToA i s v false) ∧
  (∀ (n : Byte) (s : State), AddsToA (aluImmInstr n .add) s n false) ∧
  (OnOperand (aluInstr .adc) fun i s v => AddsToA i s v (s.flag .c)) ∧
  (∀ (n : Byte) (s : State), AddsToA (aluImmInstr n .adc) s n (s.flag .c)) ∧
  (∀ (i : Slot), Decodes [BitVec.ofNat 8 (0x80 + i.code)] (aluInstr .add i) ∧
    Decodes [BitVec.ofNat 8 (0x88 + i.code)] (aluInstr .adc i)) ∧
  (∀ (n : Byte), Decodes [0xC6, n] (aluImmInstr n .add) ∧ Decodes [0xCE, n] (aluImmInstr n .adc))

/-- SUB and SBC, every operand form (R129 to R134). -/
def Obligations.SubAndSbcWriteDifferenceAndFlags : Prop :=
  (OnOperand (aluInstr .sub) fun i s v => SubtractsFromA i s v false) ∧
  (∀ (n : Byte) (s : State), SubtractsFromA (aluImmInstr n .sub) s n false) ∧
  (OnOperand (aluInstr .sbc) fun i s v => SubtractsFromA i s v (s.flag .c)) ∧
  (∀ (n : Byte) (s : State), SubtractsFromA (aluImmInstr n .sbc) s n (s.flag .c)) ∧
  (∀ (i : Slot), Decodes [BitVec.ofNat 8 (0x90 + i.code)] (aluInstr .sub i) ∧
    Decodes [BitVec.ofNat 8 (0x98 + i.code)] (aluInstr .sbc i)) ∧
  (∀ (n : Byte), Decodes [0xD6, n] (aluImmInstr n .sub) ∧ Decodes [0xDE, n] (aluImmInstr n .sbc))

/-- AND, XOR and OR, every operand form (R135 to R143). -/
def Obligations.LogicOperationsWriteAAndFlags : Prop :=
  (OnOperand (aluInstr .and) fun i s v => SetsA i s (s.a &&& v) (decide (s.a &&& v = 0)) false true false) ∧
  (∀ (n : Byte) (s : State),
    SetsA (aluImmInstr n .and) s (s.a &&& n) (decide (s.a &&& n = 0)) false true false) ∧
  (OnOperand (aluInstr .xor) fun i s v => SetsA i s (s.a ^^^ v) (decide (s.a ^^^ v = 0)) false false false) ∧
  (∀ (n : Byte) (s : State),
    SetsA (aluImmInstr n .xor) s (s.a ^^^ n) (decide (s.a ^^^ n = 0)) false false false) ∧
  (OnOperand (aluInstr .or) fun i s v => SetsA i s (s.a ||| v) (decide (s.a ||| v = 0)) false false false) ∧
  (∀ (n : Byte) (s : State),
    SetsA (aluImmInstr n .or) s (s.a ||| n) (decide (s.a ||| n = 0)) false false false) ∧
  (∀ (i : Slot), Decodes [BitVec.ofNat 8 (0xA0 + i.code)] (aluInstr .and i) ∧
    Decodes [BitVec.ofNat 8 (0xA8 + i.code)] (aluInstr .xor i) ∧
    Decodes [BitVec.ofNat 8 (0xB0 + i.code)] (aluInstr .or i)) ∧
  (∀ (n : Byte), Decodes [0xE6, n] (aluImmInstr n .and) ∧ Decodes [0xEE, n] (aluImmInstr n .xor) ∧
    Decodes [0xF6, n] (aluImmInstr n .or))

/-- CP, every operand form: the flags of a subtraction, and A unchanged (R144 to R146). -/
def Obligations.CompareWritesFlagsOnly : Prop :=
  (OnOperand (aluInstr .cp) fun i s v => SetsA i s s.a (decide (s.a = v)) true
    (decide (s.a.toNat % 16 < v.toNat % 16)) (decide (s.a.toNat < v.toNat))) ∧
  (∀ (n : Byte) (s : State), SetsA (aluImmInstr n .cp) s s.a (decide (s.a = n)) true
    (decide (s.a.toNat % 16 < n.toNat % 16)) (decide (s.a.toNat < n.toNat))) ∧
  (∀ (i : Slot), Decodes [BitVec.ofNat 8 (0xB8 + i.code)] (aluInstr .cp i)) ∧
  (∀ (n : Byte), Decodes [0xFE, n] (aluImmInstr n .cp))

/-- INC and DEC of a register or of the byte at HL, with C unchanged (R147 to R150). -/
def Obligations.IncAndDecKeepCarry : Prop :=
  SlotBecomes incInstr (fun _ v => v + 1) (fun _ v => decide (v = 0xFF)) (fun _ _ => false)
    (fun _ v => decide (v.toNat % 16 = 0x0F)) (fun s _ => s.flag .c) ∧
  SlotBecomes decInstr (fun _ v => v - 1) (fun _ v => decide (v = 0x01)) (fun _ _ => true)
    (fun _ v => decide (v.toNat % 16 = 0x00)) (fun s _ => s.flag .c) ∧
  (∀ (i : Slot), Decodes [BitVec.ofNat 8 (0x04 + 8 * i.code)] (incInstr i) ∧
    Decodes [BitVec.ofNat 8 (0x05 + 8 * i.code)] (decInstr i))

/-- DAA by the canonical rule, N unchanged (R151). -/
def Obligations.DaaFollowsTheCanonicalRule : Prop :=
  (∀ (s : State), s.flag .n = false →
    let high := s.flag .c || decide (s.a.toNat > 0x99)
    let low := s.flag .h || decide (s.a.toNat % 16 > 0x09)
    let r := BitVec.ofNat 8 (s.a.toNat + (if high then 0x60 else 0) + (if low then 0x06 else 0))
    SetsA .daa s r (decide (r = 0)) false false high) ∧
  (∀ (s : State), s.flag .n = true →
    let r := BitVec.ofInt 8 ((s.a.toNat : Int) - (if s.flag .c then 0x60 else 0) - (if s.flag .h then 0x06 else 0))
    SetsA .daa s r (decide (r = 0)) true false (s.flag .c)) ∧
  Decodes [0x27] .daa

/-- DAA after ADC or SBC of two-digit decimal numbers gives the two digits of the decimal sum or difference, with C the
decimal carry or borrow (R126 to R134, R151). -/
def Obligations.DaaAfterAdcOrSbcIsDecimal : Prop :=
  ∀ (s : State) (x y : Nat), x < 100 → y < 100 → s.a = bcd x →
    (∃ t u, exec (.adc_A_n8 (bcd y)) s = .next t ∧ exec .daa t = .next u ∧
      u.a = bcd ((x + y + (s.flag .c).toNat) % 100) ∧
      u.flag .c = decide (x + y + (s.flag .c).toNat ≥ 100)) ∧
    (∃ t u, exec (.sbc_A_n8 (bcd y)) s = .next t ∧ exec .daa t = .next u ∧
      u.a = bcd ((x + 100 - y - (s.flag .c).toNat) % 100) ∧
      u.flag .c = decide (x < y + (s.flag .c).toNat))

/-- CPL, SCF and CCF (R152 to R154). -/
def Obligations.ComplementAndCarryFlagOperations : Prop :=
  (∀ (s : State), SetsA .cpl s (BitVec.ofNat 8 (0xFF - s.a.toNat)) (s.flag .z) true true (s.flag .c)) ∧
  (∀ (s : State), SetsA .scf s s.a (s.flag .z) false false true) ∧
  (∀ (s : State), SetsA .ccf s s.a (s.flag .z) false false (!s.flag .c)) ∧
  Decodes [0x2F] .cpl ∧ Decodes [0x37] .scf ∧ Decodes [0x3F] .ccf

/-! ## 16-bit arithmetic -/

/-- ADD HL,rr: the sum modulo 65536, H from bit 11, C from bit 15, Z unchanged (41_alu16.md R161). -/
def Obligations.AddHLWritesSumAndKeepsZ : Prop :=
  (∀ (rr : Pair) (s : State),
    let v := readPair s rr
    let sum := BitVec.ofNat 16 (s.hl.toNat + v.toNat)
    ∃ f', FlagsAre s.f f' (s.flag .z) false (decide (s.hl.toNat % 4096 + v.toNat % 4096 > 0x0FFF))
        (decide (s.hl.toNat + v.toNat > 0xFFFF)) ∧
      exec (addHLInstr rr) s = .next { s with h := hi sum, l := lo sum, f := f' }) ∧
  (∀ (rr : Pair), Decodes [BitVec.ofNat 8 (0x09 + 16 * rr.code)] (addHLInstr rr))

/-- INC rr and DEC rr: the pair modulo 65536, no flag and nothing else changes (R162, R163). -/
def Obligations.PairIncDecWrapAndChangeNoFlag : Prop :=
  (∀ (s : State),
    exec .inc_BC s = .next { s with b := hi (s.bc + 1), c := lo (s.bc + 1) } ∧
    exec .inc_DE s = .next { s with d := hi (s.de + 1), e := lo (s.de + 1) } ∧
    exec .inc_HL s = .next { s with h := hi (s.hl + 1), l := lo (s.hl + 1) } ∧
    exec .inc_SP s = .next { s with sp := s.sp + 1 } ∧
    exec .dec_BC s = .next { s with b := hi (s.bc - 1), c := lo (s.bc - 1) } ∧
    exec .dec_DE s = .next { s with d := hi (s.de - 1), e := lo (s.de - 1) } ∧
    exec .dec_HL s = .next { s with h := hi (s.hl - 1), l := lo (s.hl - 1) } ∧
    exec .dec_SP s = .next { s with sp := s.sp - 1 }) ∧
  (∀ (rr : Pair), Decodes [BitVec.ofNat 8 (0x03 + 16 * rr.code)] (incPairInstr rr) ∧
    Decodes [BitVec.ofNat 8 (0x0B + 16 * rr.code)] (decPairInstr rr))

/-- ADD SP,e8 and LD HL,SP+e8: the signed sum modulo 65536, with H and C of the unsigned addition of the low bytes
(R160, R164, R165). -/
def Obligations.SpOffsetUsesLowByteFlags : Prop :=
  (∀ (e : Byte) (s : State),
    let sum := BitVec.ofInt 16 ((s.sp.toNat : Int) + e.toInt)
    ∃ f', FlagsAre s.f f' false false (decide (s.sp.toNat % 16 + e.toNat % 16 > 0x0F))
        (decide (s.sp.toNat % 256 + e.toNat > 0xFF)) ∧
      exec (.add_SP_e8 e) s = .next { s with sp := sum, f := f' } ∧
      exec (.ld_HL_SPe8 e) s = .next { s with h := hi sum, l := lo sum, f := f' }) ∧
  (∀ (e : Byte), Decodes [0xE8, e] (.add_SP_e8 e) ∧ Decodes [0xF8, e] (.ld_HL_SPe8 e))

/-! ## Rotates, shifts and bit operations -/

/-- The shift unit bit by bit (42_rotate_shift_bit.md R180). -/
def Obligations.ShiftUnitMovesBits : Prop :=
  ∀ (t : Byte) (cin : Bool),
    ((shift .rlc t cin).2 = t.getLsbD 7 ∧ (shift .rrc t cin).2 = t.getLsbD 0 ∧ (shift .rl t cin).2 = t.getLsbD 7 ∧
      (shift .rr t cin).2 = t.getLsbD 0 ∧ (shift .sla t cin).2 = t.getLsbD 7 ∧ (shift .sra t cin).2 = t.getLsbD 0 ∧
      (shift .srl t cin).2 = t.getLsbD 0 ∧ (shift .swap t cin).2 = false) ∧
    ∀ k < 8,
      (shift .rlc t cin).1.getLsbD k = t.getLsbD ((k + 7) % 8) ∧
      (shift .rrc t cin).1.getLsbD k = t.getLsbD ((k + 1) % 8) ∧
      (shift .rl t cin).1.getLsbD k = (if k = 0 then cin else t.getLsbD (k - 1)) ∧
      (shift .rr t cin).1.getLsbD k = (if k = 7 then cin else t.getLsbD (k + 1)) ∧
      (shift .sla t cin).1.getLsbD k = (if k = 0 then false else t.getLsbD (k - 1)) ∧
      (shift .sra t cin).1.getLsbD k = (if k = 7 then t.getLsbD 7 else t.getLsbD (k + 1)) ∧
      (shift .srl t cin).1.getLsbD k = (if k = 7 then false else t.getLsbD (k + 1)) ∧
      (shift .swap t cin).1.getLsbD k = t.getLsbD ((k + 4) % 8)

/-- RLCA, RRCA, RLA and RRA: the rotate of A, with Z forced to 0 (R181 to R184). -/
def Obligations.RotatesOfAForceZToZero : Prop :=
  (∀ (s : State), SetsA .rlca s (s.a.rotateLeft 1) false false false (s.a.getLsbD 7)) ∧
  (∀ (s : State), SetsA .rrca s (s.a.rotateRight 1) false false false (s.a.getLsbD 0)) ∧
  (∀ (s : State),
    SetsA .rla s (BitVec.ofNat 8 (2 * s.a.toNat + (s.flag .c).toNat)) false false false (s.a.getLsbD 7)) ∧
  (∀ (s : State),
    SetsA .rra s (BitVec.ofNat 8 (s.a.toNat / 2 + 128 * (s.flag .c).toNat)) false false false (s.a.getLsbD 0)) ∧
  Decodes [0x07] .rlca ∧ Decodes [0x0F] .rrca ∧ Decodes [0x17] .rla ∧ Decodes [0x1F] .rra

/-- The CB-page rotates of every slot (R185 to R192). -/
def Obligations.CbRotatesOfEverySlot : Prop :=
  ShiftsSlot (shiftInstr .rlc) (fun _ v => v.rotateLeft 1) (fun v => v.getLsbD 7) ∧
  ShiftsSlot (shiftInstr .rrc) (fun _ v => v.rotateRight 1) (fun v => v.getLsbD 0) ∧
  ShiftsSlot (shiftInstr .rl) (fun s v => BitVec.ofNat 8 (2 * v.toNat + (s.flag .c).toNat)) (fun v => v.getLsbD 7) ∧
  ShiftsSlot (shiftInstr .rr) (fun s v => BitVec.ofNat 8 (v.toNat / 2 + 128 * (s.flag .c).toNat))
    (fun v => v.getLsbD 0) ∧
  (∀ (i : Slot), Decodes [0xCB, BitVec.ofNat 8 (0x00 + i.code)] (shiftInstr .rlc i) ∧
    Decodes [0xCB, BitVec.ofNat 8 (0x08 + i.code)] (shiftInstr .rrc i) ∧
    Decodes [0xCB, BitVec.ofNat 8 (0x10 + i.code)] (shiftInstr .rl i) ∧
    Decodes [0xCB, BitVec.ofNat 8 (0x18 + i.code)] (shiftInstr .rr i))

/-- The CB-page shifts and SWAP of every slot (R193 to R200). -/
def Obligations.CbShiftsAndSwapOfEverySlot : Prop :=
  ShiftsSlot (shiftInstr .sla) (fun _ v => BitVec.ofNat 8 (2 * v.toNat)) (fun v => v.getLsbD 7) ∧
  ShiftsSlot (shiftInstr .sra) (fun _ v => BitVec.ofNat 8 (v.toNat / 2 + if v.toNat < 128 then 0 else 128))
    (fun v => v.getLsbD 0) ∧
  ShiftsSlot (shiftInstr .swap) (fun _ v => BitVec.ofNat 8 (v.toNat % 16 * 16 + v.toNat / 16)) (fun _ => false) ∧
  ShiftsSlot (shiftInstr .srl) (fun _ v => BitVec.ofNat 8 (v.toNat / 2)) (fun v => v.getLsbD 0) ∧
  (∀ (i : Slot), Decodes [0xCB, BitVec.ofNat 8 (0x20 + i.code)] (shiftInstr .sla i) ∧
    Decodes [0xCB, BitVec.ofNat 8 (0x28 + i.code)] (shiftInstr .sra i) ∧
    Decodes [0xCB, BitVec.ofNat 8 (0x30 + i.code)] (shiftInstr .swap i) ∧
    Decodes [0xCB, BitVec.ofNat 8 (0x38 + i.code)] (shiftInstr .srl i))

/-- BIT b: Z is the complement of the bit, N = 0, H = 1, C unchanged, and nothing is written (R201, R202). -/
def Obligations.BitTestsOneBit : Prop :=
  (∀ (b : Oct), OnOperand (bitInstr b) fun i s v => SetsA i s s.a (!v.getLsbD b.code) false true (s.flag .c)) ∧
  (∀ (b : Oct) (i : Slot), Decodes [0xCB, BitVec.ofNat 8 (0x40 + 8 * b.code + i.code)] (bitInstr b i))

/-- RES b and SET b write one bit of the slot and no flag (R203 to R206). -/
def Obligations.ResAndSetWriteOneBit : Prop :=
  (∀ (b : Oct), PutsBit (resInstr b) b.code false ∧ PutsBit (setInstr b) b.code true) ∧
  (∀ (b : Oct) (i : Slot), Decodes [0xCB, BitVec.ofNat 8 (0x80 + 8 * b.code + i.code)] (resInstr b i) ∧
    Decodes [0xCB, BitVec.ofNat 8 (0xC0 + 8 * b.code + i.code)] (setInstr b i))

/-! ## Loads and the stack -/

/-- LD between registers, (HL) and an immediate byte (44_loads_stack.md R250 to R254). -/
def Obligations.ByteLoadsCopyTheirSource : Prop :=
  (∀ (r q : Reg8) (s : State), exec (ldRegInstr r (.reg q)) s = .next (writeReg s r (readReg s q))) ∧
  (∀ (r : Reg8), LoadsByte (ldRegInstr r .atHL) State.hl fun s v => writeReg s r v) ∧
  (∀ (r : Reg8), StoresByte (ldStoreInstr r) State.hl (fun s => readReg s r) id) ∧
  (∀ (r : Reg8) (n : Byte) (s : State), exec (ldImmInstr n (.reg r)) s = .next (writeReg s r n)) ∧
  (∀ (n : Byte), StoresByte (ldImmInstr n .atHL) State.hl (fun _ => n) id) ∧
  (∀ (r : Reg8) (i : Slot), Decodes [BitVec.ofNat 8 (0x40 + 8 * r.code + i.code)] (ldRegInstr r i)) ∧
  (∀ (r : Reg8), Decodes [BitVec.ofNat 8 (0x70 + r.code)] (ldStoreInstr r)) ∧
  (∀ (i : Slot) (n : Byte), Decodes [BitVec.ofNat 8 (0x06 + 8 * i.code), n] (ldImmInstr n i))

/-- LD rr,n16 and LD SP,HL (R255, R271). -/
def Obligations.WordLoadsSetThePair : Prop :=
  (∀ (w : Word) (s : State),
    exec (.ld_BC_n16 w) s = .next { s with b := hi w, c := lo w } ∧
    exec (.ld_DE_n16 w) s = .next { s with d := hi w, e := lo w } ∧
    exec (.ld_HL_n16 w) s = .next { s with h := hi w, l := lo w } ∧
    exec (.ld_SP_n16 w) s = .next { s with sp := w } ∧
    exec .ld_SP_HL s = .next { s with sp := s.hl }) ∧
  (∀ (rr : Pair) (w : Word), Decodes [BitVec.ofNat 8 (0x01 + 16 * rr.code), lo w, hi w] (ldPairInstr w rr)) ∧
  Decodes [0xF9] .ld_SP_HL

/-- LD through BC, DE, HL+ and HL-: the access is at the old HL, and HL moves by one if it succeeds (R256 to R263). -/
def Obligations.IndirectLoadsUseOldHL : Prop :=
  StoresByte .ld_atBC_A State.bc State.a id ∧
  StoresByte .ld_atDE_A State.de State.a id ∧
  LoadsByte .ld_A_atBC State.bc (fun s v => { s with a := v }) ∧
  LoadsByte .ld_A_atDE State.de (fun s v => { s with a := v }) ∧
  StoresByte .ld_atHLinc_A State.hl State.a (fun t => { t with h := hi (t.hl + 1), l := lo (t.hl + 1) }) ∧
  StoresByte .ld_atHLdec_A State.hl State.a (fun t => { t with h := hi (t.hl - 1), l := lo (t.hl - 1) }) ∧
  LoadsByte .ld_A_atHLinc State.hl (fun s v => { s with a := v, h := hi (s.hl + 1), l := lo (s.hl + 1) }) ∧
  LoadsByte .ld_A_atHLdec State.hl (fun s v => { s with a := v, h := hi (s.hl - 1), l := lo (s.hl - 1) }) ∧
  Decodes [0x02] .ld_atBC_A ∧ Decodes [0x12] .ld_atDE_A ∧ Decodes [0x0A] .ld_A_atBC ∧ Decodes [0x1A] .ld_A_atDE ∧
  Decodes [0x22] .ld_atHLinc_A ∧ Decodes [0x32] .ld_atHLdec_A ∧ Decodes [0x2A] .ld_A_atHLinc ∧
  Decodes [0x3A] .ld_A_atHLdec

/-- The loads in the 0xFF00 window and at an absolute address (R264 to R269). -/
def Obligations.HighPageAndAbsoluteLoads : Prop :=
  (∀ (n : Byte), StoresByte (.ldh_atA8_A n) (fun _ => BitVec.ofNat 16 (0xFF00 + n.toNat)) State.a id ∧
    LoadsByte (.ldh_A_atA8 n) (fun _ => BitVec.ofNat 16 (0xFF00 + n.toNat)) (fun s v => { s with a := v })) ∧
  StoresByte .ld_atC_A (fun s => BitVec.ofNat 16 (0xFF00 + s.c.toNat)) State.a id ∧
  LoadsByte .ld_A_atC (fun s => BitVec.ofNat 16 (0xFF00 + s.c.toNat)) (fun s v => { s with a := v }) ∧
  (∀ (a : Word), StoresByte (.ld_atA16_A a) (fun _ => a) State.a id ∧
    LoadsByte (.ld_A_atA16 a) (fun _ => a) (fun s v => { s with a := v })) ∧
  (∀ (n : Byte), Decodes [0xE0, n] (.ldh_atA8_A n) ∧ Decodes [0xF0, n] (.ldh_A_atA8 n)) ∧
  Decodes [0xE2] .ld_atC_A ∧ Decodes [0xF2] .ld_A_atC ∧
  (∀ (a : Word), Decodes [0xEA, lo a, hi a] (.ld_atA16_A a) ∧ Decodes [0xFA, lo a, hi a] (.ld_A_atA16 a))

/-- LD (a16),SP: the low byte of SP at a, then the high byte at a + 1 modulo 65536; a fault of either write is the
instruction's, and the first write is then undone (R270). -/
def Obligations.StoreSpIsLittleEndian : Prop :=
  (∀ (a : Word) (s : State) (c1 c2 : CellRef), s.cell a = .next c1 → s.cell (a + 1) = .next c2 →
    exec (.ld_atA16_SP a) s = .next ((s.setByte c1 (lo s.sp)).setByte c2 (hi s.sp))) ∧
  (∀ (a : Word) (s : State) (f : Fault), s.cell a = .fault f → exec (.ld_atA16_SP a) s = .fault f) ∧
  (∀ (a : Word) (s : State) (c1 : CellRef) (f : Fault), s.cell a = .next c1 → s.cell (a + 1) = .fault f →
    exec (.ld_atA16_SP a) s = .fault f) ∧
  (∀ (a : Word), Decodes [0x08, lo a, hi a] (.ld_atA16_SP a))

/-- PUSH rr and POP rr, AF under both values of F_LOW_POLICY (R272 to R274, 20_memory.md R66, R67). -/
def Obligations.PushAndPopMoveTheStack : Prop :=
  Pushes .push_BC (fun _ => True) State.bc id ∧ Pushes .push_DE (fun _ => True) State.de id ∧
  Pushes .push_HL (fun _ => True) State.hl id ∧ Pushes .push_AF (fun _ => True) State.af id ∧
  Pops .pop_BC (fun _ => True) (fun t w => { t with b := hi w, c := lo w }) ∧
  Pops .pop_DE (fun _ => True) (fun t w => { t with d := hi w, e := lo w }) ∧
  Pops .pop_HL (fun _ => True) (fun t w => { t with h := hi w, l := lo w }) ∧
  Pops .pop_AF (fun s => s.params.fLow = .preserve) (fun t w => { t with a := hi w, f := lo w }) ∧
  Pops .pop_AF (fun s => s.params.fLow = .zero) (fun t w => { t with a := hi w, f := lo w &&& 0xF0 }) ∧
  (∀ (rr : StackPair), Decodes [BitVec.ofNat 8 (0xC5 + 16 * rr.code)] (pushInstr rr) ∧
    Decodes [BitVec.ofNat 8 (0xC1 + 16 * rr.code)] (popInstr rr))

/-! ## Control transfer -/

/-- JP and JR, absolute, through HL and relative, and the four conditions they test (43_control.md R220 to R225). -/
def Obligations.JumpsSetPcWhenTaken : Prop :=
  (∀ (s : State), (condHolds s .nz = true ↔ s.f.getLsbD 7 = false) ∧ (condHolds s .z = true ↔ s.f.getLsbD 7 = true) ∧
    (condHolds s .nc = true ↔ s.f.getLsbD 4 = false) ∧ (condHolds s .c = true ↔ s.f.getLsbD 4 = true)) ∧
  (∀ (a : Word) (s : State), exec (.jp_a16 a) s = .next { s with pc := a }) ∧
  (∀ (s : State), exec .jp_HL s = .next { s with pc := s.hl }) ∧
  (∀ (e : Byte) (s : State),
    exec (.jr_e8 e) s = .next { s with pc := BitVec.ofInt 16 ((s.pc.toNat : Int) + e.toInt) }) ∧
  (∀ (cc : Cond) (a : Word) (s : State),
    exec (jpIfInstr a cc) s = .next { s with pc := if condHolds s cc then a else s.pc }) ∧
  (∀ (cc : Cond) (e : Byte) (s : State), exec (jrIfInstr e cc) s =
    .next { s with pc := if condHolds s cc then BitVec.ofInt 16 ((s.pc.toNat : Int) + e.toInt) else s.pc }) ∧
  (∀ (a : Word), Decodes [0xC3, lo a, hi a] (.jp_a16 a)) ∧ Decodes [0xE9] .jp_HL ∧
  (∀ (e : Byte), Decodes [0x18, e] (.jr_e8 e)) ∧
  (∀ (cc : Cond) (a : Word), Decodes [BitVec.ofNat 8 (0xC2 + 8 * cc.code), lo a, hi a] (jpIfInstr a cc)) ∧
  (∀ (cc : Cond) (e : Byte), Decodes [BitVec.ofNat 8 (0x20 + 8 * cc.code), e] (jrIfInstr e cc))

/-- CALL, CALL cc and RST push the address after the instruction and jump; a CALL cc that is not taken changes nothing
(R226, R227, R231). -/
def Obligations.CallsPushTheReturnAddress : Prop :=
  (∀ (a : Word), Pushes (.call_a16 a) (fun _ => True) State.pc fun t => { t with pc := a }) ∧
  (∀ (cc : Cond) (a : Word),
    Pushes (callIfInstr a cc) (fun s => condHolds s cc = true) State.pc fun t => { t with pc := a }) ∧
  (∀ (cc : Cond) (a : Word) (s : State), condHolds s cc = false → exec (callIfInstr a cc) s = .next s) ∧
  (∀ (y : Oct),
    Pushes (rstInstr y) (fun _ => True) State.pc fun t => { t with pc := BitVec.ofNat 16 (8 * y.code) }) ∧
  (∀ (a : Word), Decodes [0xCD, lo a, hi a] (.call_a16 a)) ∧
  (∀ (cc : Cond) (a : Word), Decodes [BitVec.ofNat 8 (0xC4 + 8 * cc.code), lo a, hi a] (callIfInstr a cc)) ∧
  (∀ (y : Oct), Decodes [BitVec.ofNat 8 (0xC7 + 8 * y.code)] (rstInstr y))

/-- RET, RET cc and RETI pop PC; RETI also sets ime; a RET cc that is not taken changes nothing (R228 to R230). -/
def Obligations.ReturnsPopPc : Prop :=
  (Pops .ret (fun _ => True) fun t w => { t with pc := w }) ∧
  (∀ (cc : Cond), Pops (retIfInstr cc) (fun s => condHolds s cc = true) fun t w => { t with pc := w }) ∧
  (∀ (cc : Cond) (s : State), condHolds s cc = false → exec (retIfInstr cc) s = .next s) ∧
  (Pops .reti (fun _ => True) fun t w => { t with pc := w, ime := true }) ∧
  Decodes [0xC9] .ret ∧ Decodes [0xD9] .reti ∧
  (∀ (cc : Cond), Decodes [BitVec.ofNat 8 (0xC0 + 8 * cc.code)] (retIfInstr cc))

/-! ## System instructions -/

/-- NOP, HALT, DI and EI (45_system.md R290, R291, R293, R294). -/
def Obligations.NopHaltAndImeInstructions : Prop :=
  (∀ (s : State), exec .nop s = .next s ∧ exec .di s = .next { s with ime := false } ∧
    exec .ei s = .next { s with ime := true }) ∧
  (∀ (s : State), s.ime = true → exec .halt s = .next { s with halted := true }) ∧
  (∀ (s : State), s.ime = false → exec .halt s = .next { s with halted := true, pc := s.pc + 1 }) ∧
  Decodes [0x00] .nop ∧ Decodes [0x76] .halt ∧ Decodes [0xF3] .di ∧ Decodes [0xFB] .ei

/-- STOP sets stopped; it takes STOP_LEN bytes, and the second one may hold anything that can be read (R292). -/
def Obligations.StopTakesStopLenBytes : Prop :=
  (∀ (s : State), exec .stop s = .next { s with stopped := true }) ∧
  (∀ (s : State), memRead s s.pc = .next 0x10 → s.params.stopLen = .one →
    step s = .next { s with pc := s.pc + 1, stopped := true }) ∧
  (∀ (s : State) (b : Byte), memRead s s.pc = .next 0x10 → s.params.stopLen = .two → memRead s (s.pc + 1) = .next b →
    step s = .next { s with pc := s.pc + 2, stopped := true }) ∧
  (∀ (s : State) (f : Fault), memRead s s.pc = .next 0x10 → s.params.stopLen = .two →
    memRead s (s.pc + 1) = .fault f → step s = .fault f)

/-! ## Frames -/

/-- An instruction changes no byte of memory but those at the addresses its form stores to: every other address reads as
before, and so does every other cell (20_memory.md R65; files 40 to 45). -/
def Obligations.MemoryChangesOnlyWhereTheFormStores : Prop :=
  ∀ (φ : Form) (s t : State), exec (instrOf φ) s = .next t →
    (∀ addr, (∀ a ∈ formStores s φ, s.cell addr ≠ s.cell a) → memRead t addr = memRead s addr) ∧
    (∀ c, (∀ a ∈ formStores s φ, s.cell a ≠ .next c) → t.byteAt c = s.byteAt c)

/-- An instruction changes no register, flag or state bit but those its form writes (10_state.md R22, R23, R24, R29). -/
def Obligations.RegistersChangeOnlyWhereTheFormWrites : Prop :=
  ∀ (φ : Form) (s t : State), exec (instrOf φ) s = .next t →
    (∀ r, r ∉ formDests φ → readReg t r = readReg s r) ∧
    (formWritesSP φ = false → t.sp = s.sp) ∧ (formWritesPC φ = false → t.pc = s.pc) ∧
    (∀ k, k ∉ formFlags φ → t.flag k = s.flag k) ∧
    (φ ≠ .pop .af → t.f &&& 0x0F = s.f &&& 0x0F) ∧
    (φ ≠ .di → φ ≠ .ei → φ ≠ .reti → t.ime = s.ime) ∧
    (φ ≠ .halt → t.halted = s.halted) ∧ (φ ≠ .stop → t.stopped = s.stopped) ∧
    t.attached = s.attached ∧ t.params = s.params

/-! ## Registers and the host -/

/-- The register file: a write is seen by the next read of the same register and of no other; the pairs are views of two
halves; AF under F_LOW_POLICY (10_state.md R20, R21, R23, R35). -/
def Obligations.RegisterFileAndPairViews : Prop :=
  (∀ (s : State) (r q : Reg8) (v : Byte), readReg (writeReg s r v) q = if q = r then v else readReg s q) ∧
  (∀ (s : State), s.af = s.a ++ s.f ∧ s.bc = s.b ++ s.c ∧ s.de = s.d ++ s.e ∧ s.hl = s.h ++ s.l) ∧
  (∀ (s : State) (rr : Pair) (v : Word), readPair (writePair s rr v) rr = v) ∧
  (∀ (s : State) (v : Word), writePair s .bc v = { s with b := hi v, c := lo v } ∧
    writePair s .de v = { s with d := hi v, e := lo v } ∧ writePair s .hl v = { s with h := hi v, l := lo v } ∧
    writeStackPair s .af v = { s with a := hi v, f := match s.params.fLow with
      | .preserve => lo v
      | .zero => lo v &&& 0xF0 }) ∧
  (∀ (s : State) (v : Word), readStackPair (writeStackPair s .af v) .af =
    match s.params.fLow with
    | .preserve => v
    | .zero => v &&& 0xFFF0)

/-- The flags unit: positions, single-bit writes, and the host's view (10_state.md R24). -/
def Obligations.FlagWritesChangeOneBit : Prop :=
  (∀ (s : State), s.flag .z = s.f.getLsbD 7 ∧ s.flag .n = s.f.getLsbD 6 ∧ s.flag .h = s.f.getLsbD 5 ∧
    s.flag .c = s.f.getLsbD 4) ∧
  (∀ (f : Byte) (k : Flag) (b : Bool), BitPut f (setFlag f k b) k.pos b) ∧
  (∀ (s : State) (k : Flag), hostFlag s k = if s.flag k then 1 else 0)

/-- reset() puts every register, flag and state bit at its reset value and leaves memory and what is attached alone; a
new core has the same registers and no memory until `attach`, which changes nothing else; a launch sets the registers and
ime (70_reset_and_hazards.md R340, R341, R342, R344). What a write of F leaves in bits 3:0, at a launch as elsewhere, is
10_state.md R23. -/
def Obligations.ResetConstructionAndLaunch : Prop :=
  (∀ (s t : State), t = hostReset s → t.a = 0 ∧ t.f = 0 ∧ t.b = 0 ∧ t.c = 0 ∧ t.d = 0 ∧ t.e = 0 ∧ t.h = 0 ∧ t.l = 0 ∧
    t.sp = 0 ∧ t.pc = 0 ∧ t.ime = true ∧ t.halted = false ∧ t.stopped = false ∧ t.stores = s.stores ∧
    t.attached = s.attached ∧ t.params = s.params) ∧
  (∀ (p : Params), (constructed p).attached = none ∧ hostReset (constructed p) = constructed p) ∧
  (∀ (s : State) (p : Port), hostAttach s p = { s with attached := some p }) ∧
  (∀ (s : State) (v : Launch), (launch s v).runState = .running ∧ (launch s v).stores = s.stores ∧
    (launch s v).attached = s.attached ∧ (launch s v).a = v.a ∧ (launch s v).b = v.b ∧ (launch s v).c = v.c ∧
    (launch s v).d = v.d ∧ (launch s v).e = v.e ∧ (launch s v).h = v.h ∧ (launch s v).l = v.l ∧
    (launch s v).sp = v.sp ∧ (launch s v).pc = v.pc ∧ (launch s v).ime = v.ime ∧
    (launch s v).f = match s.params.fLow with
      | .preserve => v.f
      | .zero => v.f &&& 0xF0) ∧
  (∀ (s : State) (v : Word),
    let kept := match s.params.fLow with
      | .preserve => lo v
      | .zero => lo v &&& 0xF0
    (hostWrite s .f v).f = kept ∧ (hostWrite s .af v).f = kept ∧ (writeStackPair s .af v).f = kept) ∧
  (∀ (f : Byte) (k : Flag) (b : Bool), setFlag f k b &&& 0x0F = f &&& 0x0F)

/-- A run ends at the first step that faults, with the state before it; at the first step after which stopped is set, with
the state after it; or at the host's bound. HALT does not end it (60_exceptions.md R318). -/
def Obligations.RunEndsAtFaultStopOrBound : Prop :=
  (∀ (s : State), run 0 s = .bound s) ∧
  (∀ (n : Nat) (s : State) (f : Fault), step s = .fault f → run (n + 1) s = .faulted f s) ∧
  (∀ (n : Nat) (s t : State), step s = .next t → t.stopped = true → run (n + 1) s = .stopped t) ∧
  (∀ (n : Nat) (s t : State), step s = .next t → t.stopped = false → run (n + 1) s = run n t)
end

