-- ==== Sys2Proof/Laws/Memory.lean ====
section
/-! SUPPORT. Laws of the canonical form, the flat store and the router: a read after a write, what a write leaves alone,
and that every memory operation keeps the form. -/

namespace Sys2Proof.Machine

/-! ## Sequencing -/

@[simp] theorem andThen_next {α β : Type} (v : α) (k : α → Out β) : andThen (.next v) k = k v := rfl

@[simp] theorem andThen_fault {α β : Type} (r : Fault) (k : α → Out β) : andThen (.fault r) k = .fault r := rfl

@[simp] theorem andThen_refused {α β : Type} (r : Refusal) (k : α → Out β) : andThen (.refused r) k = .refused r := rfl

/-- A sequence ends in a value exactly when its first part has one and the rest ends in it. -/
theorem andThen_next_iff {α β : Type} {o : Out α} {k : α → Out β} {w : β} :
    andThen o k = .next w ↔ ∃ v, o = .next v ∧ k v = .next w := by
  cases o <;> simp [andThen]

/-- A sequence faults in its first part, or in the rest after a value. -/
theorem andThen_fault_iff {α β : Type} {o : Out α} {k : α → Out β} {r : Fault} :
    andThen o k = .fault r ↔ o = .fault r ∨ ∃ v, o = .next v ∧ k v = .fault r := by
  cases o <;> simp [andThen]

/-- A sequence is refused in its first part, or in the rest after a value. -/
theorem andThen_refused_iff {α β : Type} {o : Out α} {k : α → Out β} {r : Refusal} :
    andThen o k = .refused r ↔ o = .refused r ∨ ∃ v, o = .next v ∧ k v = .refused r := by
  cases o <;> simp [andThen]

theorem andThen_assoc {α β γ : Type} (o : Out α) (k : α → Out β) (m : β → Out γ) :
    andThen (andThen o k) m = andThen o fun v => andThen (k v) m := by
  cases o <;> rfl

/-! ## The canonical form -/

/-- A memory whose addresses all lie above `a` is canonical. -/
theorem Memory.wf_of_wfAbove {a : Nat} {m : Memory} (h : Memory.wfAbove a m = true) : m.wf = true := by
  cases m with
  | nil => rfl
  | cons c rest => obtain ⟨b, v⟩ := c; simp_all [Memory.wfAbove, Memory.wf]

theorem Memory.wfAbove_mono {a b : Nat} {m : Memory} (hab : a ≤ b) (h : Memory.wfAbove b m = true) :
    Memory.wfAbove a m = true := by
  cases m with
  | nil => rfl
  | cons c rest =>
    obtain ⟨x, v⟩ := c
    simp only [Memory.wfAbove, Bool.and_eq_true, decide_eq_true_eq] at h ⊢
    exact ⟨⟨by omega, h.1.2⟩, h.2⟩

/-- An address at or below the bound of a memory that lies above it is not listed. -/
theorem Memory.get_of_wfAbove {a b : Nat} {m : Memory} (h : Memory.wfAbove b m = true) (hab : a ≤ b) :
    m.get a = unlistedByte := by
  induction m generalizing b with
  | nil => rfl
  | cons c rest ih =>
    obtain ⟨x, v⟩ := c
    simp only [Memory.wfAbove, Bool.and_eq_true, decide_eq_true_eq] at h
    have hx : a ≠ x := by omega
    simp only [Memory.get, hx, if_false]
    exact ih h.2 (by omega)

theorem Memory.get_place (a b : Nat) (v : Byte) (m : Memory) (h : m.get a = unlistedByte) :
    (Memory.place a v m).get b = if b = a then v else m.get b := by
  unfold Memory.place
  split
  · rename_i hv
    split
    · rename_i hb; rw [hb, h, hv]
    · rfl
  · simp only [Memory.get]

theorem Memory.place_wfAbove {a b : Nat} {v : Byte} {m : Memory} (hb : b < a) (h : Memory.wfAbove a m = true) :
    Memory.wfAbove b (Memory.place a v m) = true := by
  unfold Memory.place
  split
  · exact Memory.wfAbove_mono (by omega) h
  · rename_i hv
    simp [Memory.wfAbove, hb, hv, h]

theorem Memory.put_wfAbove {a b : Nat} {v : Byte} {m : Memory} (hb : b < a) (h : Memory.wfAbove b m = true) :
    Memory.wfAbove b (m.put a v) = true := by
  induction m generalizing b with
  | nil => exact Memory.place_wfAbove hb rfl
  | cons c rest ih =>
    obtain ⟨x, w⟩ := c
    simp only [Memory.wfAbove, Bool.and_eq_true, decide_eq_true_eq] at h
    obtain ⟨⟨h1, h2⟩, h3⟩ := h
    simp only [Memory.put]
    split
    · exact Memory.place_wfAbove hb (by simp [Memory.wfAbove, *])
    · split
      · rename_i hx
        exact Memory.place_wfAbove hb (by rw [hx]; exact h3)
      · simp [Memory.wfAbove, h1, h2, ih (show x < a by omega) h3]

/-- A write keeps the canonical form. -/
theorem Memory.put_wf (a : Nat) (v : Byte) (m : Memory) (h : m.wf = true) : (m.put a v).wf = true := by
  cases m with
  | nil => unfold Memory.put Memory.place; split <;> simp_all [Memory.wf, Memory.wfAbove]
  | cons c rest =>
    obtain ⟨x, w⟩ := c
    simp only [Memory.wf, Bool.and_eq_true, decide_eq_true_eq] at h
    obtain ⟨h2, h3⟩ := h
    simp only [Memory.put]
    split
    · rename_i hx
      unfold Memory.place
      split
      · simp [Memory.wf, h2, h3]
      · rename_i hv; simp [Memory.wf, Memory.wfAbove, hv, hx, h2, h3]
    · split
      · rename_i hx
        unfold Memory.place
        split
        · exact Memory.wf_of_wfAbove h3
        · rename_i hv; subst hx; simp [Memory.wf, hv, h3]
      · simp [Memory.wf, h2, Memory.put_wfAbove (show x < a by omega) h3]

/-- A read after a write: the address written gives the value, every other address what it gave before. -/
theorem Memory.get_put (a b : Nat) (v : Byte) (m : Memory) (h : m.wf = true) :
    (m.put a v).get b = if b = a then v else m.get b := by
  induction m with
  | nil => exact Memory.get_place a b v [] rfl
  | cons c rest ih =>
    obtain ⟨x, w⟩ := c
    simp only [Memory.wf, Bool.and_eq_true, decide_eq_true_eq] at h
    obtain ⟨h2, h3⟩ := h
    simp only [Memory.put]
    split
    · rename_i hx
      refine Memory.get_place a b v _ ?_
      exact Memory.get_of_wfAbove (b := a) (by simp [Memory.wfAbove, hx, h2, h3]) (Nat.le_refl a)
    · split
      · rename_i hx
        subst hx
        rw [Memory.get_place a b v rest (Memory.get_of_wfAbove h3 (Nat.le_refl a))]
        by_cases hb : b = a <;> simp [Memory.get, hb]
      · rename_i hne
        have hr := ih (Memory.wf_of_wfAbove h3)
        simp only [Memory.get, hr]
        by_cases hb : b = x
        · subst hb; simp [show ¬ b = a by omega]
        · simp [hb]

/-- A byte at another address is unchanged, canonical form or not. -/
theorem Memory.get_put_ne {a b : Nat} (v : Byte) (m : Memory) (h : b ≠ a) : (m.put a v).get b = m.get b := by
  induction m with
  | nil => simp only [Memory.put, Memory.place]; split <;> simp [Memory.get, h]
  | cons c rest ih =>
    obtain ⟨x, w⟩ := c
    simp only [Memory.put, Memory.place]
    split
    · split <;> simp [Memory.get, h]
    · split
      · subst_vars; split <;> simp [Memory.get, h]
      · simp [Memory.get, ih]

theorem Memory.below_cons (n x : Nat) (w : Byte) (m : Memory) :
    Memory.below n ((x, w) :: m) = (decide (x < n) && Memory.below n m) := rfl

theorem Memory.below_place {n a : Nat} {v : Byte} {m : Memory} (ha : a < n) (h : m.below n = true) :
    (Memory.place a v m).below n = true := by
  unfold Memory.place
  split
  · exact h
  · rw [Memory.below_cons, h, Bool.and_true, decide_eq_true ha]

/-- A write at an address below a bound keeps every listed address below it. -/
theorem Memory.below_put {n a : Nat} {v : Byte} {m : Memory} (ha : a < n) (h : m.below n = true) :
    (m.put a v).below n = true := by
  induction m with
  | nil => exact Memory.below_place ha rfl
  | cons c rest ih =>
    obtain ⟨x, w⟩ := c
    obtain ⟨hx, hc⟩ := Bool.and_eq_true_iff.mp (Memory.below_cons n x w rest ▸ h)
    simp only [Memory.put]
    split
    · exact Memory.below_place ha h
    · split
      · exact Memory.below_place ha hc
      · rw [Memory.below_cons, hx, ih hc, Bool.and_true]

/-! ## The flat store -/

/-- What a read of a flat store answers (20_memory.md R50, R51). -/
theorem FlatStore.read_eq (st : FlatStore) (a : Nat) :
    st.read a = if a < st.size then .next (st.cells.get a) else .fault (.invalidAddress a) := by
  simp [FlatStore.read, FlatStore.isValid, raise]

/-- A store written within its bounds stays a well-formed store of the same size. -/
theorem FlatStore.put_wf {st : FlatStore} {a : Nat} {v : Byte} (h : st.wf = true) (ha : a < st.size) :
    FlatStore.wf { st with cells := st.cells.put a v } = true := by
  simp only [FlatStore.wf, Bool.and_eq_true, decide_eq_true_eq] at h ⊢
  exact ⟨⟨h.1.1, Memory.put_wf a v _ h.1.2⟩, Memory.below_put ha h.2⟩

/-! ## The router -/

@[simp] theorem locate_flat (a k : Nat) : locate a (.flat k) = .next (k, a) := by simp [locate]

@[simp] theorem locate_router (a : Nat) (es : MapList) : locate a (.router es) = lookup a es := by simp [locate]

@[simp] theorem lookup_nil (a : Nat) : lookup a .nil = .fault (.unmappedAddress a) := by simp [lookup, raise]

@[simp] theorem lookup_cons (a : Nat) (b : Port) (t l : AddrRange) (es : MapList) :
    lookup a (.cons b t l es) = if l.contains a then locate (t.lo + (a - l.lo)) b else lookup a es := by
  simp [lookup]

end Sys2Proof.Machine
end

