-- ==== Sys2Proof/Laws/State.lean ====
section
/-! SUPPORT. What each named update of State leaves in each field, so that no later proof unfolds one. -/

namespace Sys2Proof.Machine

/-! ## The byte of a cell -/

@[simp] theorem State.setByte_a (s : State) (c : CellRef) (v : Byte) : (s.setByte c v).a = s.a := rfl
@[simp] theorem State.setByte_f (s : State) (c : CellRef) (v : Byte) : (s.setByte c v).f = s.f := rfl
@[simp] theorem State.setByte_b (s : State) (c : CellRef) (v : Byte) : (s.setByte c v).b = s.b := rfl
@[simp] theorem State.setByte_c (s : State) (c : CellRef) (v : Byte) : (s.setByte c v).c = s.c := rfl
@[simp] theorem State.setByte_d (s : State) (c : CellRef) (v : Byte) : (s.setByte c v).d = s.d := rfl
@[simp] theorem State.setByte_e (s : State) (c : CellRef) (v : Byte) : (s.setByte c v).e = s.e := rfl
@[simp] theorem State.setByte_h (s : State) (c : CellRef) (v : Byte) : (s.setByte c v).h = s.h := rfl
@[simp] theorem State.setByte_l (s : State) (c : CellRef) (v : Byte) : (s.setByte c v).l = s.l := rfl
@[simp] theorem State.setByte_sp (s : State) (c : CellRef) (v : Byte) : (s.setByte c v).sp = s.sp := rfl
@[simp] theorem State.setByte_pc (s : State) (c : CellRef) (v : Byte) : (s.setByte c v).pc = s.pc := rfl
@[simp] theorem State.setByte_ime (s : State) (c : CellRef) (v : Byte) : (s.setByte c v).ime = s.ime := rfl
@[simp] theorem State.setByte_halted (s : State) (c : CellRef) (v : Byte) : (s.setByte c v).halted = s.halted := rfl
@[simp] theorem State.setByte_stopped (s : State) (c : CellRef) (v : Byte) : (s.setByte c v).stopped = s.stopped := rfl
@[simp] theorem State.setByte_stores (s : State) (c : CellRef) (v : Byte) : (s.setByte c v).stores = putIn s.stores c v := rfl
@[simp] theorem State.setByte_attached (s : State) (c : CellRef) (v : Byte) : (s.setByte c v).attached = s.attached := rfl
@[simp] theorem State.setByte_params (s : State) (c : CellRef) (v : Byte) : (s.setByte c v).params = s.params := rfl

/-! ## A register slot -/

@[simp] theorem writeReg_f (s : State) (r : Reg8) (v : Byte) : (writeReg s r v).f = s.f := by cases r <;> rfl
@[simp] theorem writeReg_sp (s : State) (r : Reg8) (v : Byte) : (writeReg s r v).sp = s.sp := by cases r <;> rfl
@[simp] theorem writeReg_pc (s : State) (r : Reg8) (v : Byte) : (writeReg s r v).pc = s.pc := by cases r <;> rfl
@[simp] theorem writeReg_ime (s : State) (r : Reg8) (v : Byte) : (writeReg s r v).ime = s.ime := by cases r <;> rfl
@[simp] theorem writeReg_halted (s : State) (r : Reg8) (v : Byte) : (writeReg s r v).halted = s.halted := by cases r <;> rfl
@[simp] theorem writeReg_stopped (s : State) (r : Reg8) (v : Byte) : (writeReg s r v).stopped = s.stopped := by cases r <;> rfl
@[simp] theorem writeReg_stores (s : State) (r : Reg8) (v : Byte) : (writeReg s r v).stores = s.stores := by cases r <;> rfl
@[simp] theorem writeReg_attached (s : State) (r : Reg8) (v : Byte) : (writeReg s r v).attached = s.attached := by cases r <;> rfl
@[simp] theorem writeReg_params (s : State) (r : Reg8) (v : Byte) : (writeReg s r v).params = s.params := by cases r <;> rfl
@[simp] theorem writeReg_b_b (s : State) (v : Byte) : (writeReg s .b v).b = v := rfl
@[simp] theorem writeReg_b_c (s : State) (v : Byte) : (writeReg s .b v).c = s.c := rfl
@[simp] theorem writeReg_b_d (s : State) (v : Byte) : (writeReg s .b v).d = s.d := rfl
@[simp] theorem writeReg_b_e (s : State) (v : Byte) : (writeReg s .b v).e = s.e := rfl
@[simp] theorem writeReg_b_h (s : State) (v : Byte) : (writeReg s .b v).h = s.h := rfl
@[simp] theorem writeReg_b_l (s : State) (v : Byte) : (writeReg s .b v).l = s.l := rfl
@[simp] theorem writeReg_b_a (s : State) (v : Byte) : (writeReg s .b v).a = s.a := rfl
@[simp] theorem writeReg_c_b (s : State) (v : Byte) : (writeReg s .c v).b = s.b := rfl
@[simp] theorem writeReg_c_c (s : State) (v : Byte) : (writeReg s .c v).c = v := rfl
@[simp] theorem writeReg_c_d (s : State) (v : Byte) : (writeReg s .c v).d = s.d := rfl
@[simp] theorem writeReg_c_e (s : State) (v : Byte) : (writeReg s .c v).e = s.e := rfl
@[simp] theorem writeReg_c_h (s : State) (v : Byte) : (writeReg s .c v).h = s.h := rfl
@[simp] theorem writeReg_c_l (s : State) (v : Byte) : (writeReg s .c v).l = s.l := rfl
@[simp] theorem writeReg_c_a (s : State) (v : Byte) : (writeReg s .c v).a = s.a := rfl
@[simp] theorem writeReg_d_b (s : State) (v : Byte) : (writeReg s .d v).b = s.b := rfl
@[simp] theorem writeReg_d_c (s : State) (v : Byte) : (writeReg s .d v).c = s.c := rfl
@[simp] theorem writeReg_d_d (s : State) (v : Byte) : (writeReg s .d v).d = v := rfl
@[simp] theorem writeReg_d_e (s : State) (v : Byte) : (writeReg s .d v).e = s.e := rfl
@[simp] theorem writeReg_d_h (s : State) (v : Byte) : (writeReg s .d v).h = s.h := rfl
@[simp] theorem writeReg_d_l (s : State) (v : Byte) : (writeReg s .d v).l = s.l := rfl
@[simp] theorem writeReg_d_a (s : State) (v : Byte) : (writeReg s .d v).a = s.a := rfl
@[simp] theorem writeReg_e_b (s : State) (v : Byte) : (writeReg s .e v).b = s.b := rfl
@[simp] theorem writeReg_e_c (s : State) (v : Byte) : (writeReg s .e v).c = s.c := rfl
@[simp] theorem writeReg_e_d (s : State) (v : Byte) : (writeReg s .e v).d = s.d := rfl
@[simp] theorem writeReg_e_e (s : State) (v : Byte) : (writeReg s .e v).e = v := rfl
@[simp] theorem writeReg_e_h (s : State) (v : Byte) : (writeReg s .e v).h = s.h := rfl
@[simp] theorem writeReg_e_l (s : State) (v : Byte) : (writeReg s .e v).l = s.l := rfl
@[simp] theorem writeReg_e_a (s : State) (v : Byte) : (writeReg s .e v).a = s.a := rfl
@[simp] theorem writeReg_h_b (s : State) (v : Byte) : (writeReg s .h v).b = s.b := rfl
@[simp] theorem writeReg_h_c (s : State) (v : Byte) : (writeReg s .h v).c = s.c := rfl
@[simp] theorem writeReg_h_d (s : State) (v : Byte) : (writeReg s .h v).d = s.d := rfl
@[simp] theorem writeReg_h_e (s : State) (v : Byte) : (writeReg s .h v).e = s.e := rfl
@[simp] theorem writeReg_h_h (s : State) (v : Byte) : (writeReg s .h v).h = v := rfl
@[simp] theorem writeReg_h_l (s : State) (v : Byte) : (writeReg s .h v).l = s.l := rfl
@[simp] theorem writeReg_h_a (s : State) (v : Byte) : (writeReg s .h v).a = s.a := rfl
@[simp] theorem writeReg_l_b (s : State) (v : Byte) : (writeReg s .l v).b = s.b := rfl
@[simp] theorem writeReg_l_c (s : State) (v : Byte) : (writeReg s .l v).c = s.c := rfl
@[simp] theorem writeReg_l_d (s : State) (v : Byte) : (writeReg s .l v).d = s.d := rfl
@[simp] theorem writeReg_l_e (s : State) (v : Byte) : (writeReg s .l v).e = s.e := rfl
@[simp] theorem writeReg_l_h (s : State) (v : Byte) : (writeReg s .l v).h = s.h := rfl
@[simp] theorem writeReg_l_l (s : State) (v : Byte) : (writeReg s .l v).l = v := rfl
@[simp] theorem writeReg_l_a (s : State) (v : Byte) : (writeReg s .l v).a = s.a := rfl
@[simp] theorem writeReg_a_b (s : State) (v : Byte) : (writeReg s .a v).b = s.b := rfl
@[simp] theorem writeReg_a_c (s : State) (v : Byte) : (writeReg s .a v).c = s.c := rfl
@[simp] theorem writeReg_a_d (s : State) (v : Byte) : (writeReg s .a v).d = s.d := rfl
@[simp] theorem writeReg_a_e (s : State) (v : Byte) : (writeReg s .a v).e = s.e := rfl
@[simp] theorem writeReg_a_h (s : State) (v : Byte) : (writeReg s .a v).h = s.h := rfl
@[simp] theorem writeReg_a_l (s : State) (v : Byte) : (writeReg s .a v).l = s.l := rfl
@[simp] theorem writeReg_a_a (s : State) (v : Byte) : (writeReg s .a v).a = v := rfl

/-! ## A pair -/

@[simp] theorem writePair_a (s : State) (rr : Pair) (v : Word) : (writePair s rr v).a = s.a := by cases rr <;> rfl
@[simp] theorem writePair_f (s : State) (rr : Pair) (v : Word) : (writePair s rr v).f = s.f := by cases rr <;> rfl
@[simp] theorem writePair_pc (s : State) (rr : Pair) (v : Word) : (writePair s rr v).pc = s.pc := by cases rr <;> rfl
@[simp] theorem writePair_ime (s : State) (rr : Pair) (v : Word) : (writePair s rr v).ime = s.ime := by cases rr <;> rfl
@[simp] theorem writePair_halted (s : State) (rr : Pair) (v : Word) : (writePair s rr v).halted = s.halted := by cases rr <;> rfl
@[simp] theorem writePair_stopped (s : State) (rr : Pair) (v : Word) : (writePair s rr v).stopped = s.stopped := by cases rr <;> rfl
@[simp] theorem writePair_stores (s : State) (rr : Pair) (v : Word) : (writePair s rr v).stores = s.stores := by cases rr <;> rfl
@[simp] theorem writePair_attached (s : State) (rr : Pair) (v : Word) : (writePair s rr v).attached = s.attached := by cases rr <;> rfl
@[simp] theorem writePair_params (s : State) (rr : Pair) (v : Word) : (writePair s rr v).params = s.params := by cases rr <;> rfl
@[simp] theorem writePair_bc_b (s : State) (v : Word) : (writePair s .bc v).b = hi v := rfl
@[simp] theorem writePair_bc_c (s : State) (v : Word) : (writePair s .bc v).c = lo v := rfl
@[simp] theorem writePair_bc_d (s : State) (v : Word) : (writePair s .bc v).d = s.d := rfl
@[simp] theorem writePair_bc_e (s : State) (v : Word) : (writePair s .bc v).e = s.e := rfl
@[simp] theorem writePair_bc_h (s : State) (v : Word) : (writePair s .bc v).h = s.h := rfl
@[simp] theorem writePair_bc_l (s : State) (v : Word) : (writePair s .bc v).l = s.l := rfl
@[simp] theorem writePair_bc_sp (s : State) (v : Word) : (writePair s .bc v).sp = s.sp := rfl
@[simp] theorem writePair_de_b (s : State) (v : Word) : (writePair s .de v).b = s.b := rfl
@[simp] theorem writePair_de_c (s : State) (v : Word) : (writePair s .de v).c = s.c := rfl
@[simp] theorem writePair_de_d (s : State) (v : Word) : (writePair s .de v).d = hi v := rfl
@[simp] theorem writePair_de_e (s : State) (v : Word) : (writePair s .de v).e = lo v := rfl
@[simp] theorem writePair_de_h (s : State) (v : Word) : (writePair s .de v).h = s.h := rfl
@[simp] theorem writePair_de_l (s : State) (v : Word) : (writePair s .de v).l = s.l := rfl
@[simp] theorem writePair_de_sp (s : State) (v : Word) : (writePair s .de v).sp = s.sp := rfl
@[simp] theorem writePair_hl_b (s : State) (v : Word) : (writePair s .hl v).b = s.b := rfl
@[simp] theorem writePair_hl_c (s : State) (v : Word) : (writePair s .hl v).c = s.c := rfl
@[simp] theorem writePair_hl_d (s : State) (v : Word) : (writePair s .hl v).d = s.d := rfl
@[simp] theorem writePair_hl_e (s : State) (v : Word) : (writePair s .hl v).e = s.e := rfl
@[simp] theorem writePair_hl_h (s : State) (v : Word) : (writePair s .hl v).h = hi v := rfl
@[simp] theorem writePair_hl_l (s : State) (v : Word) : (writePair s .hl v).l = lo v := rfl
@[simp] theorem writePair_hl_sp (s : State) (v : Word) : (writePair s .hl v).sp = s.sp := rfl
@[simp] theorem writePair_sp_b (s : State) (v : Word) : (writePair s .sp v).b = s.b := rfl
@[simp] theorem writePair_sp_c (s : State) (v : Word) : (writePair s .sp v).c = s.c := rfl
@[simp] theorem writePair_sp_d (s : State) (v : Word) : (writePair s .sp v).d = s.d := rfl
@[simp] theorem writePair_sp_e (s : State) (v : Word) : (writePair s .sp v).e = s.e := rfl
@[simp] theorem writePair_sp_h (s : State) (v : Word) : (writePair s .sp v).h = s.h := rfl
@[simp] theorem writePair_sp_l (s : State) (v : Word) : (writePair s .sp v).l = s.l := rfl
@[simp] theorem writePair_sp_sp (s : State) (v : Word) : (writePair s .sp v).sp = v := rfl

/-! ## F, and the pairs of PUSH and POP -/

@[simp] theorem writeF_a (s : State) (v : Byte) : (writeF s v).a = s.a := rfl
@[simp] theorem writeF_f (s : State) (v : Byte) : (writeF s v).f = fWritten s.params.fLow v := rfl
@[simp] theorem writeF_b (s : State) (v : Byte) : (writeF s v).b = s.b := rfl
@[simp] theorem writeF_c (s : State) (v : Byte) : (writeF s v).c = s.c := rfl
@[simp] theorem writeF_d (s : State) (v : Byte) : (writeF s v).d = s.d := rfl
@[simp] theorem writeF_e (s : State) (v : Byte) : (writeF s v).e = s.e := rfl
@[simp] theorem writeF_h (s : State) (v : Byte) : (writeF s v).h = s.h := rfl
@[simp] theorem writeF_l (s : State) (v : Byte) : (writeF s v).l = s.l := rfl
@[simp] theorem writeF_sp (s : State) (v : Byte) : (writeF s v).sp = s.sp := rfl
@[simp] theorem writeF_pc (s : State) (v : Byte) : (writeF s v).pc = s.pc := rfl
@[simp] theorem writeF_ime (s : State) (v : Byte) : (writeF s v).ime = s.ime := rfl
@[simp] theorem writeF_halted (s : State) (v : Byte) : (writeF s v).halted = s.halted := rfl
@[simp] theorem writeF_stopped (s : State) (v : Byte) : (writeF s v).stopped = s.stopped := rfl
@[simp] theorem writeF_stores (s : State) (v : Byte) : (writeF s v).stores = s.stores := rfl
@[simp] theorem writeF_attached (s : State) (v : Byte) : (writeF s v).attached = s.attached := rfl
@[simp] theorem writeF_params (s : State) (v : Byte) : (writeF s v).params = s.params := rfl
@[simp] theorem writeStackPair_sp (s : State) (rr : StackPair) (v : Word) : (writeStackPair s rr v).sp = s.sp := by cases rr <;> rfl
@[simp] theorem writeStackPair_pc (s : State) (rr : StackPair) (v : Word) : (writeStackPair s rr v).pc = s.pc := by cases rr <;> rfl
@[simp] theorem writeStackPair_ime (s : State) (rr : StackPair) (v : Word) : (writeStackPair s rr v).ime = s.ime := by cases rr <;> rfl
@[simp] theorem writeStackPair_halted (s : State) (rr : StackPair) (v : Word) : (writeStackPair s rr v).halted = s.halted := by cases rr <;> rfl
@[simp] theorem writeStackPair_stopped (s : State) (rr : StackPair) (v : Word) : (writeStackPair s rr v).stopped = s.stopped := by cases rr <;> rfl
@[simp] theorem writeStackPair_stores (s : State) (rr : StackPair) (v : Word) : (writeStackPair s rr v).stores = s.stores := by cases rr <;> rfl
@[simp] theorem writeStackPair_attached (s : State) (rr : StackPair) (v : Word) : (writeStackPair s rr v).attached = s.attached := by cases rr <;> rfl
@[simp] theorem writeStackPair_params (s : State) (rr : StackPair) (v : Word) : (writeStackPair s rr v).params = s.params := by cases rr <;> rfl

/-! ## The move of HL -/

@[simp] theorem moveIndirect_a (s : State) (i : Indirect) : (moveIndirect s i).a = s.a := by cases i <;> rfl
@[simp] theorem moveIndirect_f (s : State) (i : Indirect) : (moveIndirect s i).f = s.f := by cases i <;> rfl
@[simp] theorem moveIndirect_b (s : State) (i : Indirect) : (moveIndirect s i).b = s.b := by cases i <;> rfl
@[simp] theorem moveIndirect_c (s : State) (i : Indirect) : (moveIndirect s i).c = s.c := by cases i <;> rfl
@[simp] theorem moveIndirect_d (s : State) (i : Indirect) : (moveIndirect s i).d = s.d := by cases i <;> rfl
@[simp] theorem moveIndirect_e (s : State) (i : Indirect) : (moveIndirect s i).e = s.e := by cases i <;> rfl
@[simp] theorem moveIndirect_sp (s : State) (i : Indirect) : (moveIndirect s i).sp = s.sp := by cases i <;> rfl
@[simp] theorem moveIndirect_pc (s : State) (i : Indirect) : (moveIndirect s i).pc = s.pc := by cases i <;> rfl
@[simp] theorem moveIndirect_ime (s : State) (i : Indirect) : (moveIndirect s i).ime = s.ime := by cases i <;> rfl
@[simp] theorem moveIndirect_halted (s : State) (i : Indirect) : (moveIndirect s i).halted = s.halted := by cases i <;> rfl
@[simp] theorem moveIndirect_stopped (s : State) (i : Indirect) : (moveIndirect s i).stopped = s.stopped := by cases i <;> rfl
@[simp] theorem moveIndirect_stores (s : State) (i : Indirect) : (moveIndirect s i).stores = s.stores := by cases i <;> rfl
@[simp] theorem moveIndirect_attached (s : State) (i : Indirect) : (moveIndirect s i).attached = s.attached := by cases i <;> rfl
@[simp] theorem moveIndirect_params (s : State) (i : Indirect) : (moveIndirect s i).params = s.params := by cases i <;> rfl

/-! ## Reset -/

@[simp] theorem State.resetOver_a (stores : List FlatStore) (p : Option Port) (q : Params) :
    (State.resetOver stores p q).a = 0 := rfl
@[simp] theorem State.resetOver_f (stores : List FlatStore) (p : Option Port) (q : Params) :
    (State.resetOver stores p q).f = 0 := rfl
@[simp] theorem State.resetOver_b (stores : List FlatStore) (p : Option Port) (q : Params) :
    (State.resetOver stores p q).b = 0 := rfl
@[simp] theorem State.resetOver_c (stores : List FlatStore) (p : Option Port) (q : Params) :
    (State.resetOver stores p q).c = 0 := rfl
@[simp] theorem State.resetOver_d (stores : List FlatStore) (p : Option Port) (q : Params) :
    (State.resetOver stores p q).d = 0 := rfl
@[simp] theorem State.resetOver_e (stores : List FlatStore) (p : Option Port) (q : Params) :
    (State.resetOver stores p q).e = 0 := rfl
@[simp] theorem State.resetOver_h (stores : List FlatStore) (p : Option Port) (q : Params) :
    (State.resetOver stores p q).h = 0 := rfl
@[simp] theorem State.resetOver_l (stores : List FlatStore) (p : Option Port) (q : Params) :
    (State.resetOver stores p q).l = 0 := rfl
@[simp] theorem State.resetOver_sp (stores : List FlatStore) (p : Option Port) (q : Params) :
    (State.resetOver stores p q).sp = 0 := rfl
@[simp] theorem State.resetOver_pc (stores : List FlatStore) (p : Option Port) (q : Params) :
    (State.resetOver stores p q).pc = 0 := rfl
@[simp] theorem State.resetOver_ime (stores : List FlatStore) (p : Option Port) (q : Params) :
    (State.resetOver stores p q).ime = true := rfl
@[simp] theorem State.resetOver_halted (stores : List FlatStore) (p : Option Port) (q : Params) :
    (State.resetOver stores p q).halted = false := rfl
@[simp] theorem State.resetOver_stopped (stores : List FlatStore) (p : Option Port) (q : Params) :
    (State.resetOver stores p q).stopped = false := rfl
@[simp] theorem State.resetOver_stores (stores : List FlatStore) (p : Option Port) (q : Params) :
    (State.resetOver stores p q).stores = stores := rfl
@[simp] theorem State.resetOver_attached (stores : List FlatStore) (p : Option Port) (q : Params) :
    (State.resetOver stores p q).attached = p := rfl
@[simp] theorem State.resetOver_params (stores : List FlatStore) (p : Option Port) (q : Params) :
    (State.resetOver stores p q).params = q := rfl

/-- Fields that agree make equal states: for closing a goal field by field. -/
theorem State.ext_fields {s t : State}
    (ha : s.a = t.a) (hf : s.f = t.f) (hb : s.b = t.b) (hc : s.c = t.c) (hd : s.d = t.d) (he : s.e = t.e)
    (hh : s.h = t.h) (hl : s.l = t.l) (hsp : s.sp = t.sp) (hpc : s.pc = t.pc) (hime : s.ime = t.ime)
    (hhalted : s.halted = t.halted) (hstopped : s.stopped = t.stopped) (hstores : s.stores = t.stores)
    (hattached : s.attached = t.attached) (hparams : s.params = t.params) : s = t := by
  cases s
  cases t
  simp_all

end Sys2Proof.Machine
end

