-- ==== Sys2Proof/Laws/Ops.lean ====
section
/-! SUPPORT. What the memory operations of Ops.lean can do: which cell an address names, and what a write changes. -/

namespace Sys2Proof.Machine

/-! ## Cells -/

/-- A cell that an address names is there and is valid. -/
theorem cellIn_next {stores : List FlatStore} {p : Port} {a : Nat} {c : CellRef}
    (h : cellIn stores p a = .next c) : ∃ st, stores[c.1]? = some st ∧ c.2 < st.size := by
  unfold cellIn at h
  obtain ⟨d, -, h⟩ := andThen_next_iff.mp h
  split at h
  · cases h
  · rename_i st hst
    split at h
    · rename_i hv
      cases h
      exact ⟨st, hst, by simpa [FlatStore.isValid] using hv⟩
    · cases h

theorem State.cell_next {s : State} {addr : Word} {c : CellRef} (h : s.cell addr = .next c) :
    ∃ st, s.stores[c.1]? = some st ∧ c.2 < st.size := by
  unfold State.cell at h
  split at h
  · cases h
  · exact cellIn_next h

@[simp] theorem putIn_length (stores : List FlatStore) (c : CellRef) (v : Byte) :
    (putIn stores c v).length = stores.length := by
  unfold putIn
  split <;> simp

/-- A write of a cell keeps every store's size. -/
@[simp] theorem putIn_sizes (stores : List FlatStore) (c : CellRef) (v : Byte) :
    (putIn stores c v).map FlatStore.size = stores.map FlatStore.size := by
  unfold putIn
  split
  · rfl
  · rename_i st hst
    rw [List.map_set]
    apply List.ext_getElem?
    intro i
    rw [List.getElem?_set]
    split
    · rename_i hi
      subst hi
      have hlt := (List.getElem?_eq_some_iff.mp hst).1
      rw [List.getElem?_map, hst]
      simp [hlt]
    · rfl

/-- Which cell an address names depends only on the stores' sizes and on what is attached. -/
theorem cellIn_congr {stores stores' : List FlatStore} (h : stores.map FlatStore.size = stores'.map FlatStore.size)
    (p : Port) (a : Nat) : cellIn stores p a = cellIn stores' p a := by
  unfold cellIn
  congr 1
  funext c
  have hk : (stores[c.1]?).map FlatStore.size = (stores'[c.1]?).map FlatStore.size := by
    rw [← List.getElem?_map, ← List.getElem?_map, h]
  cases h1 : stores[c.1]? <;> cases h2 : stores'[c.1]? <;> simp_all [FlatStore.isValid]

theorem State.cell_congr {s t : State} (h : s.stores.map FlatStore.size = t.stores.map FlatStore.size)
    (ha : s.attached = t.attached) (addr : Word) : s.cell addr = t.cell addr := by
  unfold State.cell
  rw [ha]
  split
  · rfl
  · exact cellIn_congr h _ _

/-- A write moves no address to another cell. -/
@[simp] theorem State.setByte_cell (s : State) (c : CellRef) (v : Byte) (addr : Word) :
    (s.setByte c v).cell addr = s.cell addr :=
  State.cell_congr (s := s.setByte c v) (t := s) (by simp) rfl addr

/-- A read after a write, cell by cell, in a store in canonical form. -/
theorem byteIn_putIn {stores : List FlatStore} {c d : CellRef} {v : Byte} {st : FlatStore}
    (hst : stores[c.1]? = some st) (hwf : st.cells.wf = true) :
    byteIn (putIn stores c v) d = if d = c then v else byteIn stores d := by
  obtain ⟨k, a⟩ := c
  obtain ⟨k', a'⟩ := d
  have hlt := (List.getElem?_eq_some_iff.mp hst).1
  simp only at hst hlt
  by_cases hk : k' = k
  · subst hk
    simp only [byteIn, putIn, hst, List.getElem?_set_self hlt, Memory.get_put _ _ _ _ hwf, Prod.mk.injEq, true_and]
  · have hne : k ≠ k' := fun h => hk h.symm
    simp [byteIn, putIn, hst, List.getElem?_set_ne hne, hk]

/-- A write of one cell leaves every other cell alone. -/
theorem State.byteAt_setByte_ne (s : State) {c d : CellRef} (v : Byte) (h : d ≠ c) :
    (s.setByte c v).byteAt d = s.byteAt d := by
  obtain ⟨k, a⟩ := c
  obtain ⟨k', a'⟩ := d
  simp only [State.byteAt, State.setByte, byteIn, putIn]
  cases hk : s.stores[k]? with
  | none => rfl
  | some st =>
    have hlt := (List.getElem?_eq_some_iff.mp hk).1
    by_cases e : k' = k
    · subst e
      simp only [List.getElem?_set_self hlt, hk]
      exact Memory.get_put_ne v _ fun e => h (by rw [e])
    · simp only [List.getElem?_set_ne (Ne.symm e)]

/-- Well-formed stores stay well formed when a cell that an address names is written. -/
theorem State.setByte_stores_wf {s : State} {c : CellRef} {a : Word} (v : Byte)
    (h : s.stores.all FlatStore.wf = true) (hc : s.cell a = .next c) :
    (s.setByte c v).stores.all FlatStore.wf = true := by
  obtain ⟨st, hst, hlt⟩ := State.cell_next hc
  simp only [State.setByte_stores, putIn, hst]
  rw [List.all_eq_true] at h ⊢
  intro x hx
  rcases List.mem_or_eq_of_mem_set hx with hx | rfl
  · exact h x hx
  · exact FlatStore.put_wf (h st (List.mem_of_getElem? hst)) hlt

/-- A cell that an address names, read after a write, in well-formed stores. -/
theorem State.byteAt_setByte {s : State} {c d : CellRef} {a : Word} (v : Byte)
    (h : s.stores.all FlatStore.wf = true) (hc : s.cell a = .next c) :
    (s.setByte c v).byteAt d = if d = c then v else s.byteAt d := by
  obtain ⟨st, hst, -⟩ := State.cell_next hc
  have := (List.all_eq_true.mp h) st (List.mem_of_getElem? hst)
  simp only [FlatStore.wf, Bool.and_eq_true] at this
  exact byteIn_putIn hst this.1.2

/-! ## Reads and writes -/

theorem memRead_next_iff {s : State} {addr : Word} {v : Byte} :
    memRead s addr = .next v ↔ ∃ c, s.cell addr = .next c ∧ v = s.byteAt c := by
  unfold memRead
  rw [andThen_next_iff]
  constructor
  · rintro ⟨c, hc, h⟩; cases h; exact ⟨c, hc, rfl⟩
  · rintro ⟨c, hc, rfl⟩; exact ⟨c, hc, rfl⟩

theorem memWrite_next_iff {s t : State} {addr : Word} {v : Byte} :
    memWrite s addr v = .next t ↔ ∃ c, s.cell addr = .next c ∧ t = s.setByte c v := by
  unfold memWrite
  rw [andThen_next_iff]
  constructor
  · rintro ⟨c, hc, h⟩; cases h; exact ⟨c, hc, rfl⟩
  · rintro ⟨c, hc, rfl⟩; exact ⟨c, hc, rfl⟩

@[simp] theorem memRead_of_cell {s : State} {addr : Word} {c : CellRef} (h : s.cell addr = .next c) :
    memRead s addr = .next (s.byteAt c) := by simp [memRead, h]

@[simp] theorem memWrite_of_cell {s : State} {addr : Word} {c : CellRef} {v : Byte} (h : s.cell addr = .next c) :
    memWrite s addr v = .next (s.setByte c v) := by simp [memWrite, h]

/-- Everything a 16-bit write can do when it answers a next state (20_memory.md R63). -/
theorem memWrite16_next_iff {s t : State} {addr : Word} {v : Word} :
    memWrite16 s addr v = .next t ↔ ∃ c1 c2, s.cell addr = .next c1 ∧ s.cell (addr + 1) = .next c2 ∧
      t = (s.setByte c1 (lo v)).setByte c2 (hi v) := by
  unfold memWrite16
  simp only [andThen_next_iff, memWrite_next_iff]
  constructor
  · rintro ⟨s1, ⟨c1, hc1, rfl⟩, c2, hc2, rfl⟩
    exact ⟨c1, c2, hc1, by simpa using hc2, rfl⟩
  · rintro ⟨c1, c2, hc1, hc2, rfl⟩
    exact ⟨_, ⟨c1, hc1, rfl⟩, c2, by simpa using hc2, rfl⟩

/-! ## The stack -/

/-- Everything a push can do when it answers a next state (20_memory.md R66). -/
theorem push16_next_iff {s t : State} {v : Word} :
    push16 s v = .next t ↔ ∃ c1 c2, s.cell (s.sp - 1) = .next c1 ∧ s.cell (s.sp - 1 - 1) = .next c2 ∧
      t = { (s.setByte c1 (hi v)).setByte c2 (lo v) with sp := s.sp - 1 - 1 } := by
  unfold push16
  simp only [andThen_next_iff, memWrite_next_iff]
  constructor
  · rintro ⟨s1, ⟨c1, hc1, rfl⟩, s2, ⟨c2, hc2, rfl⟩, h⟩
    cases h
    exact ⟨c1, c2, hc1, by simpa using hc2, rfl⟩
  · rintro ⟨c1, c2, hc1, hc2, rfl⟩
    exact ⟨_, ⟨c1, hc1, rfl⟩, _, ⟨c2, by simpa using hc2, rfl⟩, rfl⟩

/-- Everything a pop can do when it answers (20_memory.md R67). -/
theorem pop16_next_iff {s : State} {r : Word × State} :
    pop16 s = .next r ↔ ∃ c1 c2, s.cell s.sp = .next c1 ∧ s.cell (s.sp + 1) = .next c2 ∧
      r = (join (s.byteAt c2) (s.byteAt c1), { s with sp := s.sp + 1 + 1 }) := by
  unfold pop16
  simp only [andThen_next_iff, memRead_next_iff]
  constructor
  · rintro ⟨l, ⟨c1, hc1, rfl⟩, h, ⟨c2, hc2, rfl⟩, h3⟩
    cases h3
    exact ⟨c1, c2, hc1, hc2, rfl⟩
  · rintro ⟨c1, c2, hc1, hc2, rfl⟩
    exact ⟨_, ⟨c1, hc1, rfl⟩, _, ⟨c2, hc2, rfl⟩, rfl⟩

end Sys2Proof.Machine
end

