-- ==== Sys2Proof/Laws/Exec.lean ====
section
/-! SUPPORT. The dispatch by form: executing the row of a form is the form's shared operation. A proof about every
instruction splits the 51 forms of 30_encoding.md and not the 511 rows. -/

namespace Sys2Proof.Machine

/-- The shared operation behind a form. -/
def formMeaning : Form → State → Out State
  | .alu op t => alu op t
  | .aluImm op n => aluImm op n
  | .inc t => inc8 t
  | .dec t => dec8 t
  | .daa => daa
  | .cpl => cpl
  | .scf => scf
  | .ccf => ccf
  | .addHL rr => addHL rr
  | .incPair rr => incPair rr
  | .decPair rr => decPair rr
  | .addSP e => addSP e
  | .ldHLSP e => ldHLSP e
  | .rotA .rlca => rotateA .rlc
  | .rotA .rrca => rotateA .rrc
  | .rotA .rla => rotateA .rl
  | .rotA .rra => rotateA .rr
  | .shift op t => shiftSlot op t
  | .bit b t => bitSlot b t
  | .res b t => resSlot b t
  | .set b t => setSlot b t
  | .ldReg r t => ld8 (.reg r) t
  | .ldStore r => ld8 .atHL (.reg r)
  | .ldImm t n => ldImm t n
  | .ldPair rr w => ldPair rr w
  | .ldToInd i => storeIndirect i
  | .ldFromInd i => loadIndirect i
  | .ldhStore n => storeA (highPage n)
  | .ldhLoad n => loadA (highPage n)
  | .ldCStore => fun s => storeA (highPage s.c) s
  | .ldCLoad => fun s => loadA (highPage s.c) s
  | .ldAbsStore a => storeA a
  | .ldAbsLoad a => loadA a
  | .ldAbsSP a => storeSP a
  | .ldSPHL => ldSPHL
  | .push rr => pushPair rr
  | .pop rr => popPair rr
  | .jp a => jump a
  | .jpIf cc a => jumpIf cc a
  | .jpHL => jumpHL
  | .jr e => jumpRel e
  | .jrIf cc e => jumpRelIf cc e
  | .call a => call a
  | .callIf cc a => callIf cc a
  | .ret => ret
  | .retIf cc => retIf cc
  | .reti => reti
  | .rst y => restart y
  | .nop => nop
  | .halt => halt
  | .stop => stop
  | .di => setIme false
  | .ei => setIme true
  | .unused u => unusedOpcode u

theorem exec_alu (op : AluOp) (t : Slot) (s : State) : exec (aluInstr op t) s = alu op t s := by
  cases op <;> (cases t with | reg r => cases r <;> rfl | atHL => rfl)

theorem exec_shift (op : ShiftOp) (t : Slot) (s : State) : exec (shiftInstr op t) s = shiftSlot op t s := by
  cases op <;> (cases t with | reg r => cases r <;> rfl | atHL => rfl)

theorem exec_bit (b : Oct) (t : Slot) (s : State) : exec (bitInstr b t) s = bitSlot b t s := by
  cases b <;> (cases t with | reg r => cases r <;> rfl | atHL => rfl)

theorem exec_res (b : Oct) (t : Slot) (s : State) : exec (resInstr b t) s = resSlot b t s := by
  cases b <;> (cases t with | reg r => cases r <;> rfl | atHL => rfl)

theorem exec_set (b : Oct) (t : Slot) (s : State) : exec (setInstr b t) s = setSlot b t s := by
  cases b <;> (cases t with | reg r => cases r <;> rfl | atHL => rfl)

theorem exec_ldReg (r : Reg8) (t : Slot) (s : State) : exec (ldRegInstr r t) s = ld8 (.reg r) t s := by
  cases r <;> (cases t with | reg r' => cases r' <;> rfl | atHL => rfl)

/-- Executing the row of a form is the form's shared operation. -/
theorem exec_instrOf (φ : Form) (s : State) : exec (instrOf φ) s = formMeaning φ s := by
  cases φ with
  | alu op t => exact exec_alu op t s
  | shift op t => exact exec_shift op t s
  | bit b t => exact exec_bit b t s
  | res b t => exact exec_res b t s
  | set b t => exact exec_set b t s
  | ldReg r t => exact exec_ldReg r t s
  | inc t => cases t with | reg r => cases r <;> rfl | atHL => rfl
  | dec t => cases t with | reg r => cases r <;> rfl | atHL => rfl
  | ldImm t n => cases t with | reg r => cases r <;> rfl | atHL => rfl
  | ldStore r => cases r <;> rfl
  | aluImm op n => cases op <;> rfl
  | rotA op => cases op <;> rfl
  | addHL rr => cases rr <;> rfl
  | incPair rr => cases rr <;> rfl
  | decPair rr => cases rr <;> rfl
  | ldPair rr w => cases rr <;> rfl
  | push rr => cases rr <;> rfl
  | pop rr => cases rr <;> rfl
  | ldToInd i => cases i <;> rfl
  | ldFromInd i => cases i <;> rfl
  | jpIf cc a => cases cc <;> rfl
  | jrIf cc e => cases cc <;> rfl
  | callIf cc a => cases cc <;> rfl
  | retIf cc => cases cc <;> rfl
  | rst y => cases y <;> rfl
  | unused u => cases u <;> rfl
  | daa | cpl | scf | ccf | addSP _ | ldHLSP _ | ldhStore _ | ldhLoad _ | ldCStore | ldCLoad | ldAbsStore _
  | ldAbsLoad _ | ldAbsSP _ | ldSPHL | jp _ | jpHL | jr _ | call _ | ret | reti | nop | halt | stop | di | ei => rfl

end Sys2Proof.Machine
end

