-- ==== Sys2Proof/Laws/Accesses.lean ====
section
/-! SUPPORT. What the shared operations of memory can do to a machine, once for each: which cells they may write
(`Wrote`), and that they answer a value exactly where every address they access has a cell (`tryAll`). -/

namespace Sys2Proof.Machine

/-! ## What is written -/

/-- `t` comes from `s` by writes at the cells of the listed addresses, in order, and by changes of registers. -/
inductive Wrote (s : State) : List Word → State → Prop where
  | refl : Wrote s [] s
  | regs {l : List Word} {t u : State} (h : Wrote s l t) (hs : u.stores = t.stores) (ha : u.attached = t.attached)
      (hp : u.params = t.params) : Wrote s l u
  | put {l : List Word} {t : State} {a : Word} {c : CellRef} {v : Byte} (h : Wrote s l t) (hc : s.cell a = .next c) :
      Wrote s (l ++ [a]) (t.setByte c v)

/-- The configuration is unchanged. -/
theorem Wrote.config {s t : State} {l : List Word} (h : Wrote s l t) :
    t.stores.map FlatStore.size = s.stores.map FlatStore.size ∧ t.attached = s.attached ∧ t.params = s.params := by
  induction h with
  | refl => exact ⟨rfl, rfl, rfl⟩
  | regs _ hs ha hp ih => rw [hs, ha, hp]; exact ih
  | put _ _ ih => exact ⟨by rw [← ih.1]; simp, ih.2⟩

/-- Every address names the cell it named. -/
theorem Wrote.cell {s t : State} {l : List Word} (h : Wrote s l t) (a : Word) : t.cell a = s.cell a :=
  State.cell_congr h.config.1 h.config.2.1 a

/-- A cell that none of the addresses names holds what it held. -/
theorem Wrote.byteAt {s t : State} {l : List Word} (h : Wrote s l t) {c : CellRef}
    (hc : ∀ a ∈ l, s.cell a ≠ .next c) : t.byteAt c = s.byteAt c := by
  induction h with
  | refl => rfl
  | regs _ hs _ _ ih => rw [← ih hc]; simp [State.byteAt, hs]
  | put h1 h2 ih =>
    rw [State.byteAt_setByte_ne, ih fun a ha => hc a (by simp [ha])]
    rintro rfl
    exact hc _ (by simp) h2

/-- Well-formed stores stay well formed. -/
theorem Wrote.stores_wf {s t : State} {l : List Word} (h : Wrote s l t)
    (hs : s.stores.all FlatStore.wf = true) : t.stores.all FlatStore.wf = true := by
  induction h with
  | refl => exact hs
  | regs _ h1 _ _ ih => rw [h1]; exact ih
  | put h1 h2 ih => rw [← h1.cell] at h2; exact State.setByte_stores_wf _ ih h2

/-- A change of registers only. -/
theorem Wrote.of_regs {s t : State} (hs : t.stores = s.stores) (ha : t.attached = s.attached)
    (hp : t.params = s.params) : Wrote s [] t := .regs .refl hs ha hp

theorem memWrite_wrote {s t : State} {a : Word} {v : Byte} (h : memWrite s a v = .next t) : Wrote s [a] t := by
  obtain ⟨c, hc, rfl⟩ := memWrite_next_iff.mp h
  exact .put (l := []) .refl hc

theorem memWrite16_wrote {s t : State} {a : Word} {v : Word} (h : memWrite16 s a v = .next t) :
    Wrote s [a, a + 1] t := by
  obtain ⟨c1, c2, h1, h2, rfl⟩ := memWrite16_next_iff.mp h
  exact .put (l := [a]) (.put (l := []) .refl h1) h2

theorem push16_wrote {s t : State} {v : Word} (h : push16 s v = .next t) : Wrote s (pushAddrs s) t := by
  obtain ⟨c1, c2, h1, h2, rfl⟩ := push16_next_iff.mp h
  exact .regs (.put (l := [s.sp - 1]) (.put (l := []) .refl h1) h2) rfl rfl rfl

theorem pop16_wrote {s : State} {r : Word × State} (h : pop16 s = .next r) : Wrote s [] r.2 := by
  obtain ⟨c1, c2, -, -, rfl⟩ := pop16_next_iff.mp h
  exact .of_regs rfl rfl rfl

theorem writeT8_wrote {s t : State} {x : Slot} {v : Byte} (h : writeT8 s x v = .next t) :
    Wrote s (slotAddrs s x) t := by
  cases x with
  | reg r => cases h; exact .of_regs (by simp) (by simp) (by simp)
  | atHL => exact memWrite_wrote h

/-! ## What is accessed -/

/-- Try a list of addresses in order: the first that has no cell decides. -/
def tryAll (s : State) : List Word → Out Unit
  | [] => .next ()
  | a :: rest => andThen (s.cell a) fun _ => tryAll s rest

/-- An outcome without its value. -/
def outKind {α : Type} (o : Out α) : Out Unit := andThen o fun _ => .next ()

theorem outKind_next {α : Type} {o : Out α} : outKind o = .next () ↔ ∃ v, o = .next v := by cases o <;> simp [outKind]

theorem outKind_fault {α : Type} {o : Out α} {f : Fault} : outKind o = .fault f ↔ o = .fault f := by
  cases o <;> simp [outKind]

theorem outKind_refused {α : Type} {o : Out α} {r : Refusal} : outKind o = .refused r ↔ o = .refused r := by
  cases o <;> simp [outKind]

theorem outKind_map {α β : Type} (o : Out α) (f : α → β) : outKind (andThen o fun v => .next (f v)) = outKind o := by
  cases o <;> rfl

theorem outKind_bind {α β : Type} (o : Out α) (k : α → Out β) (r : Out Unit)
    (h : ∀ v, o = .next v → outKind (k v) = r) : outKind (andThen o k) = andThen (outKind o) fun _ => r := by
  cases o <;> simp [outKind] at *
  exact h

theorem tryAll_append (s : State) (l m : List Word) :
    tryAll s (l ++ m) = andThen (tryAll s l) fun _ => tryAll s m := by
  induction l with
  | nil => rfl
  | cons a rest ih => simp only [List.cons_append, tryAll, ih, andThen_assoc]

theorem tryAll_next {s : State} {l : List Word} (h : ∀ a ∈ l, s.Addressable a) : tryAll s l = .next () := by
  induction l with
  | nil => rfl
  | cons a rest ih =>
    obtain ⟨c, hc⟩ := h a (by simp)
    simp only [tryAll, hc, andThen_next]
    exact ih fun b hb => h b (by simp [hb])

theorem memRead_kind (s : State) (a : Word) : outKind (memRead s a) = tryAll s [a] := by
  simp only [memRead, tryAll]
  cases s.cell a <;> rfl

theorem memWrite_kind (s : State) (a : Word) (v : Byte) : outKind (memWrite s a v) = tryAll s [a] := by
  simp only [memWrite, tryAll]
  cases s.cell a <;> rfl

theorem memWrite16_kind (s : State) (a v : Word) : outKind (memWrite16 s a v) = tryAll s [a, a + 1] := by
  simp only [memWrite16, memWrite, tryAll]
  cases s.cell a
  case fault => rfl
  case refused => rfl
  simp only [andThen_next, State.setByte_cell]
  cases s.cell (a + 1) <;> rfl

theorem readT8_kind (s : State) (x : Slot) : outKind (readT8 s x) = tryAll s (slotAddrs s x) := by
  cases x with
  | reg r => rfl
  | atHL => exact memRead_kind _ _

theorem writeT8_kind (s : State) (x : Slot) (v : Byte) : outKind (writeT8 s x v) = tryAll s (slotAddrs s x) := by
  cases x with
  | reg r => rfl
  | atHL => exact memWrite_kind _ _ _

theorem push16_kind (s : State) (v : Word) : outKind (push16 s v) = tryAll s (pushAddrs s) := by
  simp only [push16, memWrite, pushAddrs, tryAll]
  cases s.cell (s.sp - 1)
  case fault => rfl
  case refused => rfl
  simp only [andThen_next, State.setByte_cell]
  cases s.cell (s.sp - 1 - 1) <;> rfl

theorem pop16_kind (s : State) : outKind (pop16 s) = tryAll s (popAddrs s) := by
  simp only [pop16, memRead, popAddrs, tryAll]
  cases s.cell s.sp
  case fault => rfl
  case refused => rfl
  simp only [andThen_next]
  cases s.cell (s.sp + 1) <;> rfl

/-- A read-modify-write of a slot: the read, then the write (20_memory.md R65). -/
theorem readWriteT8_kind (s : State) (x : Slot) (f : Byte → Byte) (g : Byte → State → State) :
    outKind (andThen (readT8 s x) fun v => andThen (writeT8 s x (f v)) fun s1 => .next (g v s1)) =
      tryAll s (slotAddrs s x ++ slotAddrs s x) := by
  rw [outKind_bind (r := tryAll s (slotAddrs s x)), readT8_kind, tryAll_append]
  intro v _
  rw [outKind_map, writeT8_kind]

end Sys2Proof.Machine
end

