-- ==== Sys2Proof/Laws/Fetch.lean ====
section
/-! SUPPORT. What fetching an instruction can do (30_encoding.md R89, R90): it moves PC and nothing else. -/

namespace Sys2Proof.Machine

theorem fetch8_next_iff {s : State} {r : Byte × State} :
    fetch8 s = .next r ↔ ∃ c, s.cell s.pc = .next c ∧ r = (s.byteAt c, { s with pc := s.pc + 1 }) := by
  unfold fetch8
  simp only [andThen_next_iff, memRead_next_iff]
  constructor
  · rintro ⟨b, ⟨c, hc, rfl⟩, h⟩; cases h; exact ⟨c, hc, rfl⟩
  · rintro ⟨c, hc, rfl⟩; exact ⟨_, ⟨c, hc, rfl⟩, rfl⟩

/-- A fetched instruction leaves a state that differs in PC only. -/
theorem fetchInstr_next {s : State} {r : Instr × State} (h : fetchInstr s = .next r) : ∃ p, r.2 = { s with pc := p } := by
  have f8 : ∀ {s u : State} {b : Byte}, fetch8 s = .next (b, u) → ∃ p, u = { s with pc := p } := by
    intro s u b h
    obtain ⟨c, -, h⟩ := fetch8_next_iff.mp h
    cases h
    exact ⟨_, rfl⟩
  obtain ⟨⟨b, u⟩, h1, h2⟩ := andThen_next_iff.mp h
  obtain ⟨p, rfl⟩ := f8 h1
  simp only [fetchOperands] at h2
  split at h2
  · cases h2; exact ⟨_, rfl⟩
  · obtain ⟨⟨n, v⟩, h3, h4⟩ := andThen_next_iff.mp h2
    cases h4
    obtain ⟨p, rfl⟩ := f8 h3
    exact ⟨_, rfl⟩
  · obtain ⟨⟨w, v⟩, h3, h4⟩ := andThen_next_iff.mp h2
    cases h4
    obtain ⟨⟨l, v1⟩, h5, h6⟩ := andThen_next_iff.mp h3
    obtain ⟨⟨m, v2⟩, h7, h8⟩ := andThen_next_iff.mp h6
    cases h8
    obtain ⟨p, rfl⟩ := f8 h5
    obtain ⟨p, rfl⟩ := f8 h7
    exact ⟨_, rfl⟩
  · obtain ⟨⟨n, v⟩, h3, h4⟩ := andThen_next_iff.mp h2
    cases h4
    obtain ⟨p, rfl⟩ := f8 h3
    exact ⟨_, rfl⟩
  · split at h2
    · cases h2; exact ⟨_, rfl⟩
    · obtain ⟨⟨n, v⟩, h3, h4⟩ := andThen_next_iff.mp h2
      cases h4
      obtain ⟨p, rfl⟩ := f8 h3
      exact ⟨_, rfl⟩

/-- The bytes read are as many as asked for. -/
theorem readBytes_length {s : State} : ∀ {n : Nat} {addr : Word} {bs : List Byte},
    readBytes s addr n = .next bs → bs.length = n
  | 0, _, _, h => by cases h; rfl
  | n + 1, _, _, h => by
    obtain ⟨b, -, h⟩ := andThen_next_iff.mp h
    obtain ⟨r, h2, h⟩ := andThen_next_iff.mp h
    cases h
    simp [readBytes_length h2]

end Sys2Proof.Machine
end

