-- ==== Sys2Proof/Laws/Flags.lean ====
section
/-! SUPPORT. Laws of the flags unit (10_state.md R24): a flag write sets its bit and leaves the other seven alone. -/

namespace Sys2Proof.Machine

/-- A flag read after a flag write. -/
@[simp] theorem flagOf_setFlag (f : Byte) (j k : Flag) (b : Bool) :
    flagOf (setFlag f j b) k = if k = j then b else flagOf f k := by
  cases b <;> cases j <;> cases k <;> simp [flagOf, setFlag, Flag.pos]

/-- A flag read after one column of a flag string. -/
@[simp] theorem flagOf_putFlag (f : Byte) (j k : Flag) (o : Option Bool) :
    flagOf (putFlag f j o) k = if k = j then o.getD (flagOf f k) else flagOf f k := by
  cases o <;> simp [putFlag]

/-- A flag read after an instruction with a flag string: the column's value, or the old one. -/
@[simp] theorem flagOf_writeFlags (f : Byte) (z n h c : Option Bool) (k : Flag) :
    flagOf (writeFlags f z n h c) k =
      match k with
      | .z => z.getD (flagOf f .z)
      | .n => n.getD (flagOf f .n)
      | .h => h.getD (flagOf f .h)
      | .c => c.getD (flagOf f .c) := by
  cases k <;> simp [writeFlags]

/-- A flag write leaves bits 3:0 of F alone. -/
@[simp] theorem setFlag_and_low (f : Byte) (k : Flag) (b : Bool) : setFlag f k b &&& 15#8 = f &&& 15#8 := by
  cases b <;> cases k <;> simp only [setFlag, Flag.pos, if_true, if_false, Bool.false_eq_true] <;> revert f <;> decide

@[simp] theorem putFlag_and_low (f : Byte) (k : Flag) (o : Option Bool) : putFlag f k o &&& 15#8 = f &&& 15#8 := by
  cases o <;> simp [putFlag]

/-- An instruction's flag writes leave bits 3:0 of F alone (10_state.md R23). -/
@[simp] theorem writeFlags_and_low (f : Byte) (z n h c : Option Bool) :
    writeFlags f z n h c &&& 15#8 = f &&& 15#8 := by
  simp [writeFlags]

@[simp] theorem writeFlags_none (f : Byte) : writeFlags f none none none none = f := rfl

/-- `trunc8` of a byte's own value is the byte. -/
@[simp] theorem trunc8_toNat (a : Byte) : trunc8 (a.toNat : Int) = a := by simp [trunc8]

end Sys2Proof.Machine
end

