-- ==== Sys2Proof/Laws/Words.lean ====
section
/-! SUPPORT. The halves of a word (00_scope.md R7): `join` undoes `hi` and `lo`. -/

namespace Sys2Proof

theorem lo_toNat (w : Word) : (lo w).toNat = w.toNat % 256 := by simp [lo]

theorem hi_toNat (w : Word) : (hi w).toNat = w.toNat / 256 := by
  have h := w.isLt
  simp only [hi, BitVec.toNat_setWidth, BitVec.toNat_ushiftRight, Nat.shiftRight_eq_div_pow]
  omega

theorem join_toNat (h l : Byte) : (join h l).toNat = h.toNat * 256 + l.toNat := by
  have hl := l.isLt
  rw [join, BitVec.toNat_append, Nat.shiftLeft_eq, Nat.mul_comm, ← Nat.two_pow_add_eq_or_of_lt hl]

@[simp] theorem join_hi_lo (w : Word) : join (hi w) (lo w) = w := by
  apply BitVec.eq_of_toNat_eq
  rw [join_toNat, hi_toNat, lo_toNat]
  omega

@[simp] theorem hi_join (h l : Byte) : hi (join h l) = h := by
  apply BitVec.eq_of_toNat_eq
  have hl := l.isLt
  rw [hi_toNat, join_toNat]
  omega

@[simp] theorem lo_join (h l : Byte) : lo (join h l) = l := by
  apply BitVec.eq_of_toNat_eq
  have hl := l.isLt
  rw [lo_toNat, join_toNat]
  omega

end Sys2Proof
end

