-- ==== Sys2Proof/Laws/PerInstr.lean ====
section
/-! SUPPORT. Facts about every instruction, one lemma per constructor: its bytes decode back to it, and it is the row of
a form. -/

namespace Sys2Proof.Laws

/-- The bytes the encoder writes decode to the instruction, whatever follows them, under either STOP_LEN. -/
def EncodingDecodesBack.Statement (i : Instr) : Prop :=
  ∀ (sl : StopLen) (rest : List Byte), decode sl (encode sl i ++ rest) = .ok (i, rest)

/-- The instruction is the opcode-table row of some form. -/
def RowHasForm.Statement (i : Instr) : Prop := ∃ φ : Form, instrOf φ = i

/-- What decoding of a three-byte instruction needs: the two halves of a word make the word. -/
theorem decode_imm16 {op : Byte} {mk : Word → Form} (h : decodeMain op = .imm16 mk) (sl : StopLen) (w : Word)
    (rest : List Byte) : decode sl ([op, lo w, hi w] ++ rest) = .ok (instrOf (mk w), rest) := by
  simp [decode, h]

theorem EncodingDecodesBack.nop : EncodingDecodesBack.Statement .nop := fun _ _ => rfl
theorem EncodingDecodesBack.ld_BC_n16 (w : Word) : EncodingDecodesBack.Statement (.ld_BC_n16 w) := fun sl rest => decode_imm16 (op := 0x01) rfl sl w rest
theorem EncodingDecodesBack.ld_atBC_A : EncodingDecodesBack.Statement .ld_atBC_A := fun _ _ => rfl
theorem EncodingDecodesBack.inc_BC : EncodingDecodesBack.Statement .inc_BC := fun _ _ => rfl
theorem EncodingDecodesBack.inc_B : EncodingDecodesBack.Statement .inc_B := fun _ _ => rfl
theorem EncodingDecodesBack.dec_B : EncodingDecodesBack.Statement .dec_B := fun _ _ => rfl
theorem EncodingDecodesBack.ld_B_n8 (n : Byte) : EncodingDecodesBack.Statement (.ld_B_n8 n) := fun _ _ => rfl
theorem EncodingDecodesBack.rlca : EncodingDecodesBack.Statement .rlca := fun _ _ => rfl
theorem EncodingDecodesBack.ld_atA16_SP (a : Word) : EncodingDecodesBack.Statement (.ld_atA16_SP a) := fun sl rest => decode_imm16 (op := 0x08) rfl sl a rest
theorem EncodingDecodesBack.add_HL_BC : EncodingDecodesBack.Statement .add_HL_BC := fun _ _ => rfl
theorem EncodingDecodesBack.ld_A_atBC : EncodingDecodesBack.Statement .ld_A_atBC := fun _ _ => rfl
theorem EncodingDecodesBack.dec_BC : EncodingDecodesBack.Statement .dec_BC := fun _ _ => rfl
theorem EncodingDecodesBack.inc_C : EncodingDecodesBack.Statement .inc_C := fun _ _ => rfl
theorem EncodingDecodesBack.dec_C : EncodingDecodesBack.Statement .dec_C := fun _ _ => rfl
theorem EncodingDecodesBack.ld_C_n8 (n : Byte) : EncodingDecodesBack.Statement (.ld_C_n8 n) := fun _ _ => rfl
theorem EncodingDecodesBack.rrca : EncodingDecodesBack.Statement .rrca := fun _ _ => rfl
theorem EncodingDecodesBack.stop : EncodingDecodesBack.Statement .stop := fun sl _ => by cases sl <;> rfl
theorem EncodingDecodesBack.ld_DE_n16 (w : Word) : EncodingDecodesBack.Statement (.ld_DE_n16 w) := fun sl rest => decode_imm16 (op := 0x11) rfl sl w rest
theorem EncodingDecodesBack.ld_atDE_A : EncodingDecodesBack.Statement .ld_atDE_A := fun _ _ => rfl
theorem EncodingDecodesBack.inc_DE : EncodingDecodesBack.Statement .inc_DE := fun _ _ => rfl
theorem EncodingDecodesBack.inc_D : EncodingDecodesBack.Statement .inc_D := fun _ _ => rfl
theorem EncodingDecodesBack.dec_D : EncodingDecodesBack.Statement .dec_D := fun _ _ => rfl
theorem EncodingDecodesBack.ld_D_n8 (n : Byte) : EncodingDecodesBack.Statement (.ld_D_n8 n) := fun _ _ => rfl
theorem EncodingDecodesBack.rla : EncodingDecodesBack.Statement .rla := fun _ _ => rfl
theorem EncodingDecodesBack.jr_e8 (e : Byte) : EncodingDecodesBack.Statement (.jr_e8 e) := fun _ _ => rfl
theorem EncodingDecodesBack.add_HL_DE : EncodingDecodesBack.Statement .add_HL_DE := fun _ _ => rfl
theorem EncodingDecodesBack.ld_A_atDE : EncodingDecodesBack.Statement .ld_A_atDE := fun _ _ => rfl
theorem EncodingDecodesBack.dec_DE : EncodingDecodesBack.Statement .dec_DE := fun _ _ => rfl
theorem EncodingDecodesBack.inc_E : EncodingDecodesBack.Statement .inc_E := fun _ _ => rfl
theorem EncodingDecodesBack.dec_E : EncodingDecodesBack.Statement .dec_E := fun _ _ => rfl
theorem EncodingDecodesBack.ld_E_n8 (n : Byte) : EncodingDecodesBack.Statement (.ld_E_n8 n) := fun _ _ => rfl
theorem EncodingDecodesBack.rra : EncodingDecodesBack.Statement .rra := fun _ _ => rfl
theorem EncodingDecodesBack.jr_NZ_e8 (e : Byte) : EncodingDecodesBack.Statement (.jr_NZ_e8 e) := fun _ _ => rfl
theorem EncodingDecodesBack.ld_HL_n16 (w : Word) : EncodingDecodesBack.Statement (.ld_HL_n16 w) := fun sl rest => decode_imm16 (op := 0x21) rfl sl w rest
theorem EncodingDecodesBack.ld_atHLinc_A : EncodingDecodesBack.Statement .ld_atHLinc_A := fun _ _ => rfl
theorem EncodingDecodesBack.inc_HL : EncodingDecodesBack.Statement .inc_HL := fun _ _ => rfl
theorem EncodingDecodesBack.inc_H : EncodingDecodesBack.Statement .inc_H := fun _ _ => rfl
theorem EncodingDecodesBack.dec_H : EncodingDecodesBack.Statement .dec_H := fun _ _ => rfl
theorem EncodingDecodesBack.ld_H_n8 (n : Byte) : EncodingDecodesBack.Statement (.ld_H_n8 n) := fun _ _ => rfl
theorem EncodingDecodesBack.daa : EncodingDecodesBack.Statement .daa := fun _ _ => rfl
theorem EncodingDecodesBack.jr_Z_e8 (e : Byte) : EncodingDecodesBack.Statement (.jr_Z_e8 e) := fun _ _ => rfl
theorem EncodingDecodesBack.add_HL_HL : EncodingDecodesBack.Statement .add_HL_HL := fun _ _ => rfl
theorem EncodingDecodesBack.ld_A_atHLinc : EncodingDecodesBack.Statement .ld_A_atHLinc := fun _ _ => rfl
theorem EncodingDecodesBack.dec_HL : EncodingDecodesBack.Statement .dec_HL := fun _ _ => rfl
theorem EncodingDecodesBack.inc_L : EncodingDecodesBack.Statement .inc_L := fun _ _ => rfl
theorem EncodingDecodesBack.dec_L : EncodingDecodesBack.Statement .dec_L := fun _ _ => rfl
theorem EncodingDecodesBack.ld_L_n8 (n : Byte) : EncodingDecodesBack.Statement (.ld_L_n8 n) := fun _ _ => rfl
theorem EncodingDecodesBack.cpl : EncodingDecodesBack.Statement .cpl := fun _ _ => rfl
theorem EncodingDecodesBack.jr_NC_e8 (e : Byte) : EncodingDecodesBack.Statement (.jr_NC_e8 e) := fun _ _ => rfl
theorem EncodingDecodesBack.ld_SP_n16 (w : Word) : EncodingDecodesBack.Statement (.ld_SP_n16 w) := fun sl rest => decode_imm16 (op := 0x31) rfl sl w rest
theorem EncodingDecodesBack.ld_atHLdec_A : EncodingDecodesBack.Statement .ld_atHLdec_A := fun _ _ => rfl
theorem EncodingDecodesBack.inc_SP : EncodingDecodesBack.Statement .inc_SP := fun _ _ => rfl
theorem EncodingDecodesBack.inc_atHL : EncodingDecodesBack.Statement .inc_atHL := fun _ _ => rfl
theorem EncodingDecodesBack.dec_atHL : EncodingDecodesBack.Statement .dec_atHL := fun _ _ => rfl
theorem EncodingDecodesBack.ld_atHL_n8 (n : Byte) : EncodingDecodesBack.Statement (.ld_atHL_n8 n) := fun _ _ => rfl
theorem EncodingDecodesBack.scf : EncodingDecodesBack.Statement .scf := fun _ _ => rfl
theorem EncodingDecodesBack.jr_C_e8 (e : Byte) : EncodingDecodesBack.Statement (.jr_C_e8 e) := fun _ _ => rfl
theorem EncodingDecodesBack.add_HL_SP : EncodingDecodesBack.Statement .add_HL_SP := fun _ _ => rfl
theorem EncodingDecodesBack.ld_A_atHLdec : EncodingDecodesBack.Statement .ld_A_atHLdec := fun _ _ => rfl
theorem EncodingDecodesBack.dec_SP : EncodingDecodesBack.Statement .dec_SP := fun _ _ => rfl
theorem EncodingDecodesBack.inc_A : EncodingDecodesBack.Statement .inc_A := fun _ _ => rfl
theorem EncodingDecodesBack.dec_A : EncodingDecodesBack.Statement .dec_A := fun _ _ => rfl
theorem EncodingDecodesBack.ld_A_n8 (n : Byte) : EncodingDecodesBack.Statement (.ld_A_n8 n) := fun _ _ => rfl
theorem EncodingDecodesBack.ccf : EncodingDecodesBack.Statement .ccf := fun _ _ => rfl
theorem EncodingDecodesBack.ld_B_B : EncodingDecodesBack.Statement .ld_B_B := fun _ _ => rfl
theorem EncodingDecodesBack.ld_B_C : EncodingDecodesBack.Statement .ld_B_C := fun _ _ => rfl
theorem EncodingDecodesBack.ld_B_D : EncodingDecodesBack.Statement .ld_B_D := fun _ _ => rfl
theorem EncodingDecodesBack.ld_B_E : EncodingDecodesBack.Statement .ld_B_E := fun _ _ => rfl
theorem EncodingDecodesBack.ld_B_H : EncodingDecodesBack.Statement .ld_B_H := fun _ _ => rfl
theorem EncodingDecodesBack.ld_B_L : EncodingDecodesBack.Statement .ld_B_L := fun _ _ => rfl
theorem EncodingDecodesBack.ld_B_atHL : EncodingDecodesBack.Statement .ld_B_atHL := fun _ _ => rfl
theorem EncodingDecodesBack.ld_B_A : EncodingDecodesBack.Statement .ld_B_A := fun _ _ => rfl
theorem EncodingDecodesBack.ld_C_B : EncodingDecodesBack.Statement .ld_C_B := fun _ _ => rfl
theorem EncodingDecodesBack.ld_C_C : EncodingDecodesBack.Statement .ld_C_C := fun _ _ => rfl
theorem EncodingDecodesBack.ld_C_D : EncodingDecodesBack.Statement .ld_C_D := fun _ _ => rfl
theorem EncodingDecodesBack.ld_C_E : EncodingDecodesBack.Statement .ld_C_E := fun _ _ => rfl
theorem EncodingDecodesBack.ld_C_H : EncodingDecodesBack.Statement .ld_C_H := fun _ _ => rfl
theorem EncodingDecodesBack.ld_C_L : EncodingDecodesBack.Statement .ld_C_L := fun _ _ => rfl
theorem EncodingDecodesBack.ld_C_atHL : EncodingDecodesBack.Statement .ld_C_atHL := fun _ _ => rfl
theorem EncodingDecodesBack.ld_C_A : EncodingDecodesBack.Statement .ld_C_A := fun _ _ => rfl
theorem EncodingDecodesBack.ld_D_B : EncodingDecodesBack.Statement .ld_D_B := fun _ _ => rfl
theorem EncodingDecodesBack.ld_D_C : EncodingDecodesBack.Statement .ld_D_C := fun _ _ => rfl
theorem EncodingDecodesBack.ld_D_D : EncodingDecodesBack.Statement .ld_D_D := fun _ _ => rfl
theorem EncodingDecodesBack.ld_D_E : EncodingDecodesBack.Statement .ld_D_E := fun _ _ => rfl
theorem EncodingDecodesBack.ld_D_H : EncodingDecodesBack.Statement .ld_D_H := fun _ _ => rfl
theorem EncodingDecodesBack.ld_D_L : EncodingDecodesBack.Statement .ld_D_L := fun _ _ => rfl
theorem EncodingDecodesBack.ld_D_atHL : EncodingDecodesBack.Statement .ld_D_atHL := fun _ _ => rfl
theorem EncodingDecodesBack.ld_D_A : EncodingDecodesBack.Statement .ld_D_A := fun _ _ => rfl
theorem EncodingDecodesBack.ld_E_B : EncodingDecodesBack.Statement .ld_E_B := fun _ _ => rfl
theorem EncodingDecodesBack.ld_E_C : EncodingDecodesBack.Statement .ld_E_C := fun _ _ => rfl
theorem EncodingDecodesBack.ld_E_D : EncodingDecodesBack.Statement .ld_E_D := fun _ _ => rfl
theorem EncodingDecodesBack.ld_E_E : EncodingDecodesBack.Statement .ld_E_E := fun _ _ => rfl
theorem EncodingDecodesBack.ld_E_H : EncodingDecodesBack.Statement .ld_E_H := fun _ _ => rfl
theorem EncodingDecodesBack.ld_E_L : EncodingDecodesBack.Statement .ld_E_L := fun _ _ => rfl
theorem EncodingDecodesBack.ld_E_atHL : EncodingDecodesBack.Statement .ld_E_atHL := fun _ _ => rfl
theorem EncodingDecodesBack.ld_E_A : EncodingDecodesBack.Statement .ld_E_A := fun _ _ => rfl
theorem EncodingDecodesBack.ld_H_B : EncodingDecodesBack.Statement .ld_H_B := fun _ _ => rfl
theorem EncodingDecodesBack.ld_H_C : EncodingDecodesBack.Statement .ld_H_C := fun _ _ => rfl
theorem EncodingDecodesBack.ld_H_D : EncodingDecodesBack.Statement .ld_H_D := fun _ _ => rfl
theorem EncodingDecodesBack.ld_H_E : EncodingDecodesBack.Statement .ld_H_E := fun _ _ => rfl
theorem EncodingDecodesBack.ld_H_H : EncodingDecodesBack.Statement .ld_H_H := fun _ _ => rfl
theorem EncodingDecodesBack.ld_H_L : EncodingDecodesBack.Statement .ld_H_L := fun _ _ => rfl
theorem EncodingDecodesBack.ld_H_atHL : EncodingDecodesBack.Statement .ld_H_atHL := fun _ _ => rfl
theorem EncodingDecodesBack.ld_H_A : EncodingDecodesBack.Statement .ld_H_A := fun _ _ => rfl
theorem EncodingDecodesBack.ld_L_B : EncodingDecodesBack.Statement .ld_L_B := fun _ _ => rfl
theorem EncodingDecodesBack.ld_L_C : EncodingDecodesBack.Statement .ld_L_C := fun _ _ => rfl
theorem EncodingDecodesBack.ld_L_D : EncodingDecodesBack.Statement .ld_L_D := fun _ _ => rfl
theorem EncodingDecodesBack.ld_L_E : EncodingDecodesBack.Statement .ld_L_E := fun _ _ => rfl
theorem EncodingDecodesBack.ld_L_H : EncodingDecodesBack.Statement .ld_L_H := fun _ _ => rfl
theorem EncodingDecodesBack.ld_L_L : EncodingDecodesBack.Statement .ld_L_L := fun _ _ => rfl
theorem EncodingDecodesBack.ld_L_atHL : EncodingDecodesBack.Statement .ld_L_atHL := fun _ _ => rfl
theorem EncodingDecodesBack.ld_L_A : EncodingDecodesBack.Statement .ld_L_A := fun _ _ => rfl
theorem EncodingDecodesBack.ld_atHL_B : EncodingDecodesBack.Statement .ld_atHL_B := fun _ _ => rfl
theorem EncodingDecodesBack.ld_atHL_C : EncodingDecodesBack.Statement .ld_atHL_C := fun _ _ => rfl
theorem EncodingDecodesBack.ld_atHL_D : EncodingDecodesBack.Statement .ld_atHL_D := fun _ _ => rfl
theorem EncodingDecodesBack.ld_atHL_E : EncodingDecodesBack.Statement .ld_atHL_E := fun _ _ => rfl
theorem EncodingDecodesBack.ld_atHL_H : EncodingDecodesBack.Statement .ld_atHL_H := fun _ _ => rfl
theorem EncodingDecodesBack.ld_atHL_L : EncodingDecodesBack.Statement .ld_atHL_L := fun _ _ => rfl
theorem EncodingDecodesBack.halt : EncodingDecodesBack.Statement .halt := fun _ _ => rfl
theorem EncodingDecodesBack.ld_atHL_A : EncodingDecodesBack.Statement .ld_atHL_A := fun _ _ => rfl
theorem EncodingDecodesBack.ld_A_B : EncodingDecodesBack.Statement .ld_A_B := fun _ _ => rfl
theorem EncodingDecodesBack.ld_A_C : EncodingDecodesBack.Statement .ld_A_C := fun _ _ => rfl
theorem EncodingDecodesBack.ld_A_D : EncodingDecodesBack.Statement .ld_A_D := fun _ _ => rfl
theorem EncodingDecodesBack.ld_A_E : EncodingDecodesBack.Statement .ld_A_E := fun _ _ => rfl
theorem EncodingDecodesBack.ld_A_H : EncodingDecodesBack.Statement .ld_A_H := fun _ _ => rfl
theorem EncodingDecodesBack.ld_A_L : EncodingDecodesBack.Statement .ld_A_L := fun _ _ => rfl
theorem EncodingDecodesBack.ld_A_atHL : EncodingDecodesBack.Statement .ld_A_atHL := fun _ _ => rfl
theorem EncodingDecodesBack.ld_A_A : EncodingDecodesBack.Statement .ld_A_A := fun _ _ => rfl
theorem EncodingDecodesBack.add_A_B : EncodingDecodesBack.Statement .add_A_B := fun _ _ => rfl
theorem EncodingDecodesBack.add_A_C : EncodingDecodesBack.Statement .add_A_C := fun _ _ => rfl
theorem EncodingDecodesBack.add_A_D : EncodingDecodesBack.Statement .add_A_D := fun _ _ => rfl
theorem EncodingDecodesBack.add_A_E : EncodingDecodesBack.Statement .add_A_E := fun _ _ => rfl
theorem EncodingDecodesBack.add_A_H : EncodingDecodesBack.Statement .add_A_H := fun _ _ => rfl
theorem EncodingDecodesBack.add_A_L : EncodingDecodesBack.Statement .add_A_L := fun _ _ => rfl
theorem EncodingDecodesBack.add_A_atHL : EncodingDecodesBack.Statement .add_A_atHL := fun _ _ => rfl
theorem EncodingDecodesBack.add_A_A : EncodingDecodesBack.Statement .add_A_A := fun _ _ => rfl
theorem EncodingDecodesBack.adc_A_B : EncodingDecodesBack.Statement .adc_A_B := fun _ _ => rfl
theorem EncodingDecodesBack.adc_A_C : EncodingDecodesBack.Statement .adc_A_C := fun _ _ => rfl
theorem EncodingDecodesBack.adc_A_D : EncodingDecodesBack.Statement .adc_A_D := fun _ _ => rfl
theorem EncodingDecodesBack.adc_A_E : EncodingDecodesBack.Statement .adc_A_E := fun _ _ => rfl
theorem EncodingDecodesBack.adc_A_H : EncodingDecodesBack.Statement .adc_A_H := fun _ _ => rfl
theorem EncodingDecodesBack.adc_A_L : EncodingDecodesBack.Statement .adc_A_L := fun _ _ => rfl
theorem EncodingDecodesBack.adc_A_atHL : EncodingDecodesBack.Statement .adc_A_atHL := fun _ _ => rfl
theorem EncodingDecodesBack.adc_A_A : EncodingDecodesBack.Statement .adc_A_A := fun _ _ => rfl
theorem EncodingDecodesBack.sub_B : EncodingDecodesBack.Statement .sub_B := fun _ _ => rfl
theorem EncodingDecodesBack.sub_C : EncodingDecodesBack.Statement .sub_C := fun _ _ => rfl
theorem EncodingDecodesBack.sub_D : EncodingDecodesBack.Statement .sub_D := fun _ _ => rfl
theorem EncodingDecodesBack.sub_E : EncodingDecodesBack.Statement .sub_E := fun _ _ => rfl
theorem EncodingDecodesBack.sub_H : EncodingDecodesBack.Statement .sub_H := fun _ _ => rfl
theorem EncodingDecodesBack.sub_L : EncodingDecodesBack.Statement .sub_L := fun _ _ => rfl
theorem EncodingDecodesBack.sub_atHL : EncodingDecodesBack.Statement .sub_atHL := fun _ _ => rfl
theorem EncodingDecodesBack.sub_A : EncodingDecodesBack.Statement .sub_A := fun _ _ => rfl
theorem EncodingDecodesBack.sbc_A_B : EncodingDecodesBack.Statement .sbc_A_B := fun _ _ => rfl
theorem EncodingDecodesBack.sbc_A_C : EncodingDecodesBack.Statement .sbc_A_C := fun _ _ => rfl
theorem EncodingDecodesBack.sbc_A_D : EncodingDecodesBack.Statement .sbc_A_D := fun _ _ => rfl
theorem EncodingDecodesBack.sbc_A_E : EncodingDecodesBack.Statement .sbc_A_E := fun _ _ => rfl
theorem EncodingDecodesBack.sbc_A_H : EncodingDecodesBack.Statement .sbc_A_H := fun _ _ => rfl
theorem EncodingDecodesBack.sbc_A_L : EncodingDecodesBack.Statement .sbc_A_L := fun _ _ => rfl
theorem EncodingDecodesBack.sbc_A_atHL : EncodingDecodesBack.Statement .sbc_A_atHL := fun _ _ => rfl
theorem EncodingDecodesBack.sbc_A_A : EncodingDecodesBack.Statement .sbc_A_A := fun _ _ => rfl
theorem EncodingDecodesBack.and_B : EncodingDecodesBack.Statement .and_B := fun _ _ => rfl
theorem EncodingDecodesBack.and_C : EncodingDecodesBack.Statement .and_C := fun _ _ => rfl
theorem EncodingDecodesBack.and_D : EncodingDecodesBack.Statement .and_D := fun _ _ => rfl
theorem EncodingDecodesBack.and_E : EncodingDecodesBack.Statement .and_E := fun _ _ => rfl
theorem EncodingDecodesBack.and_H : EncodingDecodesBack.Statement .and_H := fun _ _ => rfl
theorem EncodingDecodesBack.and_L : EncodingDecodesBack.Statement .and_L := fun _ _ => rfl
theorem EncodingDecodesBack.and_atHL : EncodingDecodesBack.Statement .and_atHL := fun _ _ => rfl
theorem EncodingDecodesBack.and_A : EncodingDecodesBack.Statement .and_A := fun _ _ => rfl
theorem EncodingDecodesBack.xor_B : EncodingDecodesBack.Statement .xor_B := fun _ _ => rfl
theorem EncodingDecodesBack.xor_C : EncodingDecodesBack.Statement .xor_C := fun _ _ => rfl
theorem EncodingDecodesBack.xor_D : EncodingDecodesBack.Statement .xor_D := fun _ _ => rfl
theorem EncodingDecodesBack.xor_E : EncodingDecodesBack.Statement .xor_E := fun _ _ => rfl
theorem EncodingDecodesBack.xor_H : EncodingDecodesBack.Statement .xor_H := fun _ _ => rfl
theorem EncodingDecodesBack.xor_L : EncodingDecodesBack.Statement .xor_L := fun _ _ => rfl
theorem EncodingDecodesBack.xor_atHL : EncodingDecodesBack.Statement .xor_atHL := fun _ _ => rfl
theorem EncodingDecodesBack.xor_A : EncodingDecodesBack.Statement .xor_A := fun _ _ => rfl
theorem EncodingDecodesBack.or_B : EncodingDecodesBack.Statement .or_B := fun _ _ => rfl
theorem EncodingDecodesBack.or_C : EncodingDecodesBack.Statement .or_C := fun _ _ => rfl
theorem EncodingDecodesBack.or_D : EncodingDecodesBack.Statement .or_D := fun _ _ => rfl
theorem EncodingDecodesBack.or_E : EncodingDecodesBack.Statement .or_E := fun _ _ => rfl
theorem EncodingDecodesBack.or_H : EncodingDecodesBack.Statement .or_H := fun _ _ => rfl
theorem EncodingDecodesBack.or_L : EncodingDecodesBack.Statement .or_L := fun _ _ => rfl
theorem EncodingDecodesBack.or_atHL : EncodingDecodesBack.Statement .or_atHL := fun _ _ => rfl
theorem EncodingDecodesBack.or_A : EncodingDecodesBack.Statement .or_A := fun _ _ => rfl
theorem EncodingDecodesBack.cp_B : EncodingDecodesBack.Statement .cp_B := fun _ _ => rfl
theorem EncodingDecodesBack.cp_C : EncodingDecodesBack.Statement .cp_C := fun _ _ => rfl
theorem EncodingDecodesBack.cp_D : EncodingDecodesBack.Statement .cp_D := fun _ _ => rfl
theorem EncodingDecodesBack.cp_E : EncodingDecodesBack.Statement .cp_E := fun _ _ => rfl
theorem EncodingDecodesBack.cp_H : EncodingDecodesBack.Statement .cp_H := fun _ _ => rfl
theorem EncodingDecodesBack.cp_L : EncodingDecodesBack.Statement .cp_L := fun _ _ => rfl
theorem EncodingDecodesBack.cp_atHL : EncodingDecodesBack.Statement .cp_atHL := fun _ _ => rfl
theorem EncodingDecodesBack.cp_A : EncodingDecodesBack.Statement .cp_A := fun _ _ => rfl
theorem EncodingDecodesBack.ret_NZ : EncodingDecodesBack.Statement .ret_NZ := fun _ _ => rfl
theorem EncodingDecodesBack.pop_BC : EncodingDecodesBack.Statement .pop_BC := fun _ _ => rfl
theorem EncodingDecodesBack.jp_NZ_a16 (a : Word) : EncodingDecodesBack.Statement (.jp_NZ_a16 a) := fun sl rest => decode_imm16 (op := 0xC2) rfl sl a rest
theorem EncodingDecodesBack.jp_a16 (a : Word) : EncodingDecodesBack.Statement (.jp_a16 a) := fun sl rest => decode_imm16 (op := 0xC3) rfl sl a rest
theorem EncodingDecodesBack.call_NZ_a16 (a : Word) : EncodingDecodesBack.Statement (.call_NZ_a16 a) := fun sl rest => decode_imm16 (op := 0xC4) rfl sl a rest
theorem EncodingDecodesBack.push_BC : EncodingDecodesBack.Statement .push_BC := fun _ _ => rfl
theorem EncodingDecodesBack.add_A_n8 (n : Byte) : EncodingDecodesBack.Statement (.add_A_n8 n) := fun _ _ => rfl
theorem EncodingDecodesBack.rst_00 : EncodingDecodesBack.Statement .rst_00 := fun _ _ => rfl
theorem EncodingDecodesBack.ret_Z : EncodingDecodesBack.Statement .ret_Z := fun _ _ => rfl
theorem EncodingDecodesBack.ret : EncodingDecodesBack.Statement .ret := fun _ _ => rfl
theorem EncodingDecodesBack.jp_Z_a16 (a : Word) : EncodingDecodesBack.Statement (.jp_Z_a16 a) := fun sl rest => decode_imm16 (op := 0xCA) rfl sl a rest
theorem EncodingDecodesBack.call_Z_a16 (a : Word) : EncodingDecodesBack.Statement (.call_Z_a16 a) := fun sl rest => decode_imm16 (op := 0xCC) rfl sl a rest
theorem EncodingDecodesBack.call_a16 (a : Word) : EncodingDecodesBack.Statement (.call_a16 a) := fun sl rest => decode_imm16 (op := 0xCD) rfl sl a rest
theorem EncodingDecodesBack.adc_A_n8 (n : Byte) : EncodingDecodesBack.Statement (.adc_A_n8 n) := fun _ _ => rfl
theorem EncodingDecodesBack.rst_08 : EncodingDecodesBack.Statement .rst_08 := fun _ _ => rfl
theorem EncodingDecodesBack.ret_NC : EncodingDecodesBack.Statement .ret_NC := fun _ _ => rfl
theorem EncodingDecodesBack.pop_DE : EncodingDecodesBack.Statement .pop_DE := fun _ _ => rfl
theorem EncodingDecodesBack.jp_NC_a16 (a : Word) : EncodingDecodesBack.Statement (.jp_NC_a16 a) := fun sl rest => decode_imm16 (op := 0xD2) rfl sl a rest
theorem EncodingDecodesBack.unused_D3 : EncodingDecodesBack.Statement .unused_D3 := fun _ _ => rfl
theorem EncodingDecodesBack.call_NC_a16 (a : Word) : EncodingDecodesBack.Statement (.call_NC_a16 a) := fun sl rest => decode_imm16 (op := 0xD4) rfl sl a rest
theorem EncodingDecodesBack.push_DE : EncodingDecodesBack.Statement .push_DE := fun _ _ => rfl
theorem EncodingDecodesBack.sub_n8 (n : Byte) : EncodingDecodesBack.Statement (.sub_n8 n) := fun _ _ => rfl
theorem EncodingDecodesBack.rst_10 : EncodingDecodesBack.Statement .rst_10 := fun _ _ => rfl
theorem EncodingDecodesBack.ret_C : EncodingDecodesBack.Statement .ret_C := fun _ _ => rfl
theorem EncodingDecodesBack.reti : EncodingDecodesBack.Statement .reti := fun _ _ => rfl
theorem EncodingDecodesBack.jp_C_a16 (a : Word) : EncodingDecodesBack.Statement (.jp_C_a16 a) := fun sl rest => decode_imm16 (op := 0xDA) rfl sl a rest
theorem EncodingDecodesBack.unused_DB : EncodingDecodesBack.Statement .unused_DB := fun _ _ => rfl
theorem EncodingDecodesBack.call_C_a16 (a : Word) : EncodingDecodesBack.Statement (.call_C_a16 a) := fun sl rest => decode_imm16 (op := 0xDC) rfl sl a rest
theorem EncodingDecodesBack.unused_DD : EncodingDecodesBack.Statement .unused_DD := fun _ _ => rfl
theorem EncodingDecodesBack.sbc_A_n8 (n : Byte) : EncodingDecodesBack.Statement (.sbc_A_n8 n) := fun _ _ => rfl
theorem EncodingDecodesBack.rst_18 : EncodingDecodesBack.Statement .rst_18 := fun _ _ => rfl
theorem EncodingDecodesBack.ldh_atA8_A (n : Byte) : EncodingDecodesBack.Statement (.ldh_atA8_A n) := fun _ _ => rfl
theorem EncodingDecodesBack.pop_HL : EncodingDecodesBack.Statement .pop_HL := fun _ _ => rfl
theorem EncodingDecodesBack.ld_atC_A : EncodingDecodesBack.Statement .ld_atC_A := fun _ _ => rfl
theorem EncodingDecodesBack.unused_E3 : EncodingDecodesBack.Statement .unused_E3 := fun _ _ => rfl
theorem EncodingDecodesBack.unused_E4 : EncodingDecodesBack.Statement .unused_E4 := fun _ _ => rfl
theorem EncodingDecodesBack.push_HL : EncodingDecodesBack.Statement .push_HL := fun _ _ => rfl
theorem EncodingDecodesBack.and_n8 (n : Byte) : EncodingDecodesBack.Statement (.and_n8 n) := fun _ _ => rfl
theorem EncodingDecodesBack.rst_20 : EncodingDecodesBack.Statement .rst_20 := fun _ _ => rfl
theorem EncodingDecodesBack.add_SP_e8 (e : Byte) : EncodingDecodesBack.Statement (.add_SP_e8 e) := fun _ _ => rfl
theorem EncodingDecodesBack.jp_HL : EncodingDecodesBack.Statement .jp_HL := fun _ _ => rfl
theorem EncodingDecodesBack.ld_atA16_A (a : Word) : EncodingDecodesBack.Statement (.ld_atA16_A a) := fun sl rest => decode_imm16 (op := 0xEA) rfl sl a rest
theorem EncodingDecodesBack.unused_EB : EncodingDecodesBack.Statement .unused_EB := fun _ _ => rfl
theorem EncodingDecodesBack.unused_EC : EncodingDecodesBack.Statement .unused_EC := fun _ _ => rfl
theorem EncodingDecodesBack.unused_ED : EncodingDecodesBack.Statement .unused_ED := fun _ _ => rfl
theorem EncodingDecodesBack.xor_n8 (n : Byte) : EncodingDecodesBack.Statement (.xor_n8 n) := fun _ _ => rfl
theorem EncodingDecodesBack.rst_28 : EncodingDecodesBack.Statement .rst_28 := fun _ _ => rfl
theorem EncodingDecodesBack.ldh_A_atA8 (n : Byte) : EncodingDecodesBack.Statement (.ldh_A_atA8 n) := fun _ _ => rfl
theorem EncodingDecodesBack.pop_AF : EncodingDecodesBack.Statement .pop_AF := fun _ _ => rfl
theorem EncodingDecodesBack.ld_A_atC : EncodingDecodesBack.Statement .ld_A_atC := fun _ _ => rfl
theorem EncodingDecodesBack.di : EncodingDecodesBack.Statement .di := fun _ _ => rfl
theorem EncodingDecodesBack.unused_F4 : EncodingDecodesBack.Statement .unused_F4 := fun _ _ => rfl
theorem EncodingDecodesBack.push_AF : EncodingDecodesBack.Statement .push_AF := fun _ _ => rfl
theorem EncodingDecodesBack.or_n8 (n : Byte) : EncodingDecodesBack.Statement (.or_n8 n) := fun _ _ => rfl
theorem EncodingDecodesBack.rst_30 : EncodingDecodesBack.Statement .rst_30 := fun _ _ => rfl
theorem EncodingDecodesBack.ld_HL_SPe8 (e : Byte) : EncodingDecodesBack.Statement (.ld_HL_SPe8 e) := fun _ _ => rfl
theorem EncodingDecodesBack.ld_SP_HL : EncodingDecodesBack.Statement .ld_SP_HL := fun _ _ => rfl
theorem EncodingDecodesBack.ld_A_atA16 (a : Word) : EncodingDecodesBack.Statement (.ld_A_atA16 a) := fun sl rest => decode_imm16 (op := 0xFA) rfl sl a rest
theorem EncodingDecodesBack.ei : EncodingDecodesBack.Statement .ei := fun _ _ => rfl
theorem EncodingDecodesBack.unused_FC : EncodingDecodesBack.Statement .unused_FC := fun _ _ => rfl
theorem EncodingDecodesBack.unused_FD : EncodingDecodesBack.Statement .unused_FD := fun _ _ => rfl
theorem EncodingDecodesBack.cp_n8 (n : Byte) : EncodingDecodesBack.Statement (.cp_n8 n) := fun _ _ => rfl
theorem EncodingDecodesBack.rst_38 : EncodingDecodesBack.Statement .rst_38 := fun _ _ => rfl
theorem EncodingDecodesBack.rlc_B : EncodingDecodesBack.Statement .rlc_B := fun _ _ => rfl
theorem EncodingDecodesBack.rlc_C : EncodingDecodesBack.Statement .rlc_C := fun _ _ => rfl
theorem EncodingDecodesBack.rlc_D : EncodingDecodesBack.Statement .rlc_D := fun _ _ => rfl
theorem EncodingDecodesBack.rlc_E : EncodingDecodesBack.Statement .rlc_E := fun _ _ => rfl
theorem EncodingDecodesBack.rlc_H : EncodingDecodesBack.Statement .rlc_H := fun _ _ => rfl
theorem EncodingDecodesBack.rlc_L : EncodingDecodesBack.Statement .rlc_L := fun _ _ => rfl
theorem EncodingDecodesBack.rlc_atHL : EncodingDecodesBack.Statement .rlc_atHL := fun _ _ => rfl
theorem EncodingDecodesBack.rlc_A : EncodingDecodesBack.Statement .rlc_A := fun _ _ => rfl
theorem EncodingDecodesBack.rrc_B : EncodingDecodesBack.Statement .rrc_B := fun _ _ => rfl
theorem EncodingDecodesBack.rrc_C : EncodingDecodesBack.Statement .rrc_C := fun _ _ => rfl
theorem EncodingDecodesBack.rrc_D : EncodingDecodesBack.Statement .rrc_D := fun _ _ => rfl
theorem EncodingDecodesBack.rrc_E : EncodingDecodesBack.Statement .rrc_E := fun _ _ => rfl
theorem EncodingDecodesBack.rrc_H : EncodingDecodesBack.Statement .rrc_H := fun _ _ => rfl
theorem EncodingDecodesBack.rrc_L : EncodingDecodesBack.Statement .rrc_L := fun _ _ => rfl
theorem EncodingDecodesBack.rrc_atHL : EncodingDecodesBack.Statement .rrc_atHL := fun _ _ => rfl
theorem EncodingDecodesBack.rrc_A : EncodingDecodesBack.Statement .rrc_A := fun _ _ => rfl
theorem EncodingDecodesBack.rl_B : EncodingDecodesBack.Statement .rl_B := fun _ _ => rfl
theorem EncodingDecodesBack.rl_C : EncodingDecodesBack.Statement .rl_C := fun _ _ => rfl
theorem EncodingDecodesBack.rl_D : EncodingDecodesBack.Statement .rl_D := fun _ _ => rfl
theorem EncodingDecodesBack.rl_E : EncodingDecodesBack.Statement .rl_E := fun _ _ => rfl
theorem EncodingDecodesBack.rl_H : EncodingDecodesBack.Statement .rl_H := fun _ _ => rfl
theorem EncodingDecodesBack.rl_L : EncodingDecodesBack.Statement .rl_L := fun _ _ => rfl
theorem EncodingDecodesBack.rl_atHL : EncodingDecodesBack.Statement .rl_atHL := fun _ _ => rfl
theorem EncodingDecodesBack.rl_A : EncodingDecodesBack.Statement .rl_A := fun _ _ => rfl
theorem EncodingDecodesBack.rr_B : EncodingDecodesBack.Statement .rr_B := fun _ _ => rfl
theorem EncodingDecodesBack.rr_C : EncodingDecodesBack.Statement .rr_C := fun _ _ => rfl
theorem EncodingDecodesBack.rr_D : EncodingDecodesBack.Statement .rr_D := fun _ _ => rfl
theorem EncodingDecodesBack.rr_E : EncodingDecodesBack.Statement .rr_E := fun _ _ => rfl
theorem EncodingDecodesBack.rr_H : EncodingDecodesBack.Statement .rr_H := fun _ _ => rfl
theorem EncodingDecodesBack.rr_L : EncodingDecodesBack.Statement .rr_L := fun _ _ => rfl
theorem EncodingDecodesBack.rr_atHL : EncodingDecodesBack.Statement .rr_atHL := fun _ _ => rfl
theorem EncodingDecodesBack.rr_A : EncodingDecodesBack.Statement .rr_A := fun _ _ => rfl
theorem EncodingDecodesBack.sla_B : EncodingDecodesBack.Statement .sla_B := fun _ _ => rfl
theorem EncodingDecodesBack.sla_C : EncodingDecodesBack.Statement .sla_C := fun _ _ => rfl
theorem EncodingDecodesBack.sla_D : EncodingDecodesBack.Statement .sla_D := fun _ _ => rfl
theorem EncodingDecodesBack.sla_E : EncodingDecodesBack.Statement .sla_E := fun _ _ => rfl
theorem EncodingDecodesBack.sla_H : EncodingDecodesBack.Statement .sla_H := fun _ _ => rfl
theorem EncodingDecodesBack.sla_L : EncodingDecodesBack.Statement .sla_L := fun _ _ => rfl
theorem EncodingDecodesBack.sla_atHL : EncodingDecodesBack.Statement .sla_atHL := fun _ _ => rfl
theorem EncodingDecodesBack.sla_A : EncodingDecodesBack.Statement .sla_A := fun _ _ => rfl
theorem EncodingDecodesBack.sra_B : EncodingDecodesBack.Statement .sra_B := fun _ _ => rfl
theorem EncodingDecodesBack.sra_C : EncodingDecodesBack.Statement .sra_C := fun _ _ => rfl
theorem EncodingDecodesBack.sra_D : EncodingDecodesBack.Statement .sra_D := fun _ _ => rfl
theorem EncodingDecodesBack.sra_E : EncodingDecodesBack.Statement .sra_E := fun _ _ => rfl
theorem EncodingDecodesBack.sra_H : EncodingDecodesBack.Statement .sra_H := fun _ _ => rfl
theorem EncodingDecodesBack.sra_L : EncodingDecodesBack.Statement .sra_L := fun _ _ => rfl
theorem EncodingDecodesBack.sra_atHL : EncodingDecodesBack.Statement .sra_atHL := fun _ _ => rfl
theorem EncodingDecodesBack.sra_A : EncodingDecodesBack.Statement .sra_A := fun _ _ => rfl
theorem EncodingDecodesBack.swap_B : EncodingDecodesBack.Statement .swap_B := fun _ _ => rfl
theorem EncodingDecodesBack.swap_C : EncodingDecodesBack.Statement .swap_C := fun _ _ => rfl
theorem EncodingDecodesBack.swap_D : EncodingDecodesBack.Statement .swap_D := fun _ _ => rfl
theorem EncodingDecodesBack.swap_E : EncodingDecodesBack.Statement .swap_E := fun _ _ => rfl
theorem EncodingDecodesBack.swap_H : EncodingDecodesBack.Statement .swap_H := fun _ _ => rfl
theorem EncodingDecodesBack.swap_L : EncodingDecodesBack.Statement .swap_L := fun _ _ => rfl
theorem EncodingDecodesBack.swap_atHL : EncodingDecodesBack.Statement .swap_atHL := fun _ _ => rfl
theorem EncodingDecodesBack.swap_A : EncodingDecodesBack.Statement .swap_A := fun _ _ => rfl
theorem EncodingDecodesBack.srl_B : EncodingDecodesBack.Statement .srl_B := fun _ _ => rfl
theorem EncodingDecodesBack.srl_C : EncodingDecodesBack.Statement .srl_C := fun _ _ => rfl
theorem EncodingDecodesBack.srl_D : EncodingDecodesBack.Statement .srl_D := fun _ _ => rfl
theorem EncodingDecodesBack.srl_E : EncodingDecodesBack.Statement .srl_E := fun _ _ => rfl
theorem EncodingDecodesBack.srl_H : EncodingDecodesBack.Statement .srl_H := fun _ _ => rfl
theorem EncodingDecodesBack.srl_L : EncodingDecodesBack.Statement .srl_L := fun _ _ => rfl
theorem EncodingDecodesBack.srl_atHL : EncodingDecodesBack.Statement .srl_atHL := fun _ _ => rfl
theorem EncodingDecodesBack.srl_A : EncodingDecodesBack.Statement .srl_A := fun _ _ => rfl
theorem EncodingDecodesBack.bit_0_B : EncodingDecodesBack.Statement .bit_0_B := fun _ _ => rfl
theorem EncodingDecodesBack.bit_0_C : EncodingDecodesBack.Statement .bit_0_C := fun _ _ => rfl
theorem EncodingDecodesBack.bit_0_D : EncodingDecodesBack.Statement .bit_0_D := fun _ _ => rfl
theorem EncodingDecodesBack.bit_0_E : EncodingDecodesBack.Statement .bit_0_E := fun _ _ => rfl
theorem EncodingDecodesBack.bit_0_H : EncodingDecodesBack.Statement .bit_0_H := fun _ _ => rfl
theorem EncodingDecodesBack.bit_0_L : EncodingDecodesBack.Statement .bit_0_L := fun _ _ => rfl
theorem EncodingDecodesBack.bit_0_atHL : EncodingDecodesBack.Statement .bit_0_atHL := fun _ _ => rfl
theorem EncodingDecodesBack.bit_0_A : EncodingDecodesBack.Statement .bit_0_A := fun _ _ => rfl
theorem EncodingDecodesBack.bit_1_B : EncodingDecodesBack.Statement .bit_1_B := fun _ _ => rfl
theorem EncodingDecodesBack.bit_1_C : EncodingDecodesBack.Statement .bit_1_C := fun _ _ => rfl
theorem EncodingDecodesBack.bit_1_D : EncodingDecodesBack.Statement .bit_1_D := fun _ _ => rfl
theorem EncodingDecodesBack.bit_1_E : EncodingDecodesBack.Statement .bit_1_E := fun _ _ => rfl
theorem EncodingDecodesBack.bit_1_H : EncodingDecodesBack.Statement .bit_1_H := fun _ _ => rfl
theorem EncodingDecodesBack.bit_1_L : EncodingDecodesBack.Statement .bit_1_L := fun _ _ => rfl
theorem EncodingDecodesBack.bit_1_atHL : EncodingDecodesBack.Statement .bit_1_atHL := fun _ _ => rfl
theorem EncodingDecodesBack.bit_1_A : EncodingDecodesBack.Statement .bit_1_A := fun _ _ => rfl
theorem EncodingDecodesBack.bit_2_B : EncodingDecodesBack.Statement .bit_2_B := fun _ _ => rfl
theorem EncodingDecodesBack.bit_2_C : EncodingDecodesBack.Statement .bit_2_C := fun _ _ => rfl
theorem EncodingDecodesBack.bit_2_D : EncodingDecodesBack.Statement .bit_2_D := fun _ _ => rfl
theorem EncodingDecodesBack.bit_2_E : EncodingDecodesBack.Statement .bit_2_E := fun _ _ => rfl
theorem EncodingDecodesBack.bit_2_H : EncodingDecodesBack.Statement .bit_2_H := fun _ _ => rfl
theorem EncodingDecodesBack.bit_2_L : EncodingDecodesBack.Statement .bit_2_L := fun _ _ => rfl
theorem EncodingDecodesBack.bit_2_atHL : EncodingDecodesBack.Statement .bit_2_atHL := fun _ _ => rfl
theorem EncodingDecodesBack.bit_2_A : EncodingDecodesBack.Statement .bit_2_A := fun _ _ => rfl
theorem EncodingDecodesBack.bit_3_B : EncodingDecodesBack.Statement .bit_3_B := fun _ _ => rfl
theorem EncodingDecodesBack.bit_3_C : EncodingDecodesBack.Statement .bit_3_C := fun _ _ => rfl
theorem EncodingDecodesBack.bit_3_D : EncodingDecodesBack.Statement .bit_3_D := fun _ _ => rfl
theorem EncodingDecodesBack.bit_3_E : EncodingDecodesBack.Statement .bit_3_E := fun _ _ => rfl
theorem EncodingDecodesBack.bit_3_H : EncodingDecodesBack.Statement .bit_3_H := fun _ _ => rfl
theorem EncodingDecodesBack.bit_3_L : EncodingDecodesBack.Statement .bit_3_L := fun _ _ => rfl
theorem EncodingDecodesBack.bit_3_atHL : EncodingDecodesBack.Statement .bit_3_atHL := fun _ _ => rfl
theorem EncodingDecodesBack.bit_3_A : EncodingDecodesBack.Statement .bit_3_A := fun _ _ => rfl
theorem EncodingDecodesBack.bit_4_B : EncodingDecodesBack.Statement .bit_4_B := fun _ _ => rfl
theorem EncodingDecodesBack.bit_4_C : EncodingDecodesBack.Statement .bit_4_C := fun _ _ => rfl
theorem EncodingDecodesBack.bit_4_D : EncodingDecodesBack.Statement .bit_4_D := fun _ _ => rfl
theorem EncodingDecodesBack.bit_4_E : EncodingDecodesBack.Statement .bit_4_E := fun _ _ => rfl
theorem EncodingDecodesBack.bit_4_H : EncodingDecodesBack.Statement .bit_4_H := fun _ _ => rfl
theorem EncodingDecodesBack.bit_4_L : EncodingDecodesBack.Statement .bit_4_L := fun _ _ => rfl
theorem EncodingDecodesBack.bit_4_atHL : EncodingDecodesBack.Statement .bit_4_atHL := fun _ _ => rfl
theorem EncodingDecodesBack.bit_4_A : EncodingDecodesBack.Statement .bit_4_A := fun _ _ => rfl
theorem EncodingDecodesBack.bit_5_B : EncodingDecodesBack.Statement .bit_5_B := fun _ _ => rfl
theorem EncodingDecodesBack.bit_5_C : EncodingDecodesBack.Statement .bit_5_C := fun _ _ => rfl
theorem EncodingDecodesBack.bit_5_D : EncodingDecodesBack.Statement .bit_5_D := fun _ _ => rfl
theorem EncodingDecodesBack.bit_5_E : EncodingDecodesBack.Statement .bit_5_E := fun _ _ => rfl
theorem EncodingDecodesBack.bit_5_H : EncodingDecodesBack.Statement .bit_5_H := fun _ _ => rfl
theorem EncodingDecodesBack.bit_5_L : EncodingDecodesBack.Statement .bit_5_L := fun _ _ => rfl
theorem EncodingDecodesBack.bit_5_atHL : EncodingDecodesBack.Statement .bit_5_atHL := fun _ _ => rfl
theorem EncodingDecodesBack.bit_5_A : EncodingDecodesBack.Statement .bit_5_A := fun _ _ => rfl
theorem EncodingDecodesBack.bit_6_B : EncodingDecodesBack.Statement .bit_6_B := fun _ _ => rfl
theorem EncodingDecodesBack.bit_6_C : EncodingDecodesBack.Statement .bit_6_C := fun _ _ => rfl
theorem EncodingDecodesBack.bit_6_D : EncodingDecodesBack.Statement .bit_6_D := fun _ _ => rfl
theorem EncodingDecodesBack.bit_6_E : EncodingDecodesBack.Statement .bit_6_E := fun _ _ => rfl
theorem EncodingDecodesBack.bit_6_H : EncodingDecodesBack.Statement .bit_6_H := fun _ _ => rfl
theorem EncodingDecodesBack.bit_6_L : EncodingDecodesBack.Statement .bit_6_L := fun _ _ => rfl
theorem EncodingDecodesBack.bit_6_atHL : EncodingDecodesBack.Statement .bit_6_atHL := fun _ _ => rfl
theorem EncodingDecodesBack.bit_6_A : EncodingDecodesBack.Statement .bit_6_A := fun _ _ => rfl
theorem EncodingDecodesBack.bit_7_B : EncodingDecodesBack.Statement .bit_7_B := fun _ _ => rfl
theorem EncodingDecodesBack.bit_7_C : EncodingDecodesBack.Statement .bit_7_C := fun _ _ => rfl
theorem EncodingDecodesBack.bit_7_D : EncodingDecodesBack.Statement .bit_7_D := fun _ _ => rfl
theorem EncodingDecodesBack.bit_7_E : EncodingDecodesBack.Statement .bit_7_E := fun _ _ => rfl
theorem EncodingDecodesBack.bit_7_H : EncodingDecodesBack.Statement .bit_7_H := fun _ _ => rfl
theorem EncodingDecodesBack.bit_7_L : EncodingDecodesBack.Statement .bit_7_L := fun _ _ => rfl
theorem EncodingDecodesBack.bit_7_atHL : EncodingDecodesBack.Statement .bit_7_atHL := fun _ _ => rfl
theorem EncodingDecodesBack.bit_7_A : EncodingDecodesBack.Statement .bit_7_A := fun _ _ => rfl
theorem EncodingDecodesBack.res_0_B : EncodingDecodesBack.Statement .res_0_B := fun _ _ => rfl
theorem EncodingDecodesBack.res_0_C : EncodingDecodesBack.Statement .res_0_C := fun _ _ => rfl
theorem EncodingDecodesBack.res_0_D : EncodingDecodesBack.Statement .res_0_D := fun _ _ => rfl
theorem EncodingDecodesBack.res_0_E : EncodingDecodesBack.Statement .res_0_E := fun _ _ => rfl
theorem EncodingDecodesBack.res_0_H : EncodingDecodesBack.Statement .res_0_H := fun _ _ => rfl
theorem EncodingDecodesBack.res_0_L : EncodingDecodesBack.Statement .res_0_L := fun _ _ => rfl
theorem EncodingDecodesBack.res_0_atHL : EncodingDecodesBack.Statement .res_0_atHL := fun _ _ => rfl
theorem EncodingDecodesBack.res_0_A : EncodingDecodesBack.Statement .res_0_A := fun _ _ => rfl
theorem EncodingDecodesBack.res_1_B : EncodingDecodesBack.Statement .res_1_B := fun _ _ => rfl
theorem EncodingDecodesBack.res_1_C : EncodingDecodesBack.Statement .res_1_C := fun _ _ => rfl
theorem EncodingDecodesBack.res_1_D : EncodingDecodesBack.Statement .res_1_D := fun _ _ => rfl
theorem EncodingDecodesBack.res_1_E : EncodingDecodesBack.Statement .res_1_E := fun _ _ => rfl
theorem EncodingDecodesBack.res_1_H : EncodingDecodesBack.Statement .res_1_H := fun _ _ => rfl
theorem EncodingDecodesBack.res_1_L : EncodingDecodesBack.Statement .res_1_L := fun _ _ => rfl
theorem EncodingDecodesBack.res_1_atHL : EncodingDecodesBack.Statement .res_1_atHL := fun _ _ => rfl
theorem EncodingDecodesBack.res_1_A : EncodingDecodesBack.Statement .res_1_A := fun _ _ => rfl
theorem EncodingDecodesBack.res_2_B : EncodingDecodesBack.Statement .res_2_B := fun _ _ => rfl
theorem EncodingDecodesBack.res_2_C : EncodingDecodesBack.Statement .res_2_C := fun _ _ => rfl
theorem EncodingDecodesBack.res_2_D : EncodingDecodesBack.Statement .res_2_D := fun _ _ => rfl
theorem EncodingDecodesBack.res_2_E : EncodingDecodesBack.Statement .res_2_E := fun _ _ => rfl
theorem EncodingDecodesBack.res_2_H : EncodingDecodesBack.Statement .res_2_H := fun _ _ => rfl
theorem EncodingDecodesBack.res_2_L : EncodingDecodesBack.Statement .res_2_L := fun _ _ => rfl
theorem EncodingDecodesBack.res_2_atHL : EncodingDecodesBack.Statement .res_2_atHL := fun _ _ => rfl
theorem EncodingDecodesBack.res_2_A : EncodingDecodesBack.Statement .res_2_A := fun _ _ => rfl
theorem EncodingDecodesBack.res_3_B : EncodingDecodesBack.Statement .res_3_B := fun _ _ => rfl
theorem EncodingDecodesBack.res_3_C : EncodingDecodesBack.Statement .res_3_C := fun _ _ => rfl
theorem EncodingDecodesBack.res_3_D : EncodingDecodesBack.Statement .res_3_D := fun _ _ => rfl
theorem EncodingDecodesBack.res_3_E : EncodingDecodesBack.Statement .res_3_E := fun _ _ => rfl
theorem EncodingDecodesBack.res_3_H : EncodingDecodesBack.Statement .res_3_H := fun _ _ => rfl
theorem EncodingDecodesBack.res_3_L : EncodingDecodesBack.Statement .res_3_L := fun _ _ => rfl
theorem EncodingDecodesBack.res_3_atHL : EncodingDecodesBack.Statement .res_3_atHL := fun _ _ => rfl
theorem EncodingDecodesBack.res_3_A : EncodingDecodesBack.Statement .res_3_A := fun _ _ => rfl
theorem EncodingDecodesBack.res_4_B : EncodingDecodesBack.Statement .res_4_B := fun _ _ => rfl
theorem EncodingDecodesBack.res_4_C : EncodingDecodesBack.Statement .res_4_C := fun _ _ => rfl
theorem EncodingDecodesBack.res_4_D : EncodingDecodesBack.Statement .res_4_D := fun _ _ => rfl
theorem EncodingDecodesBack.res_4_E : EncodingDecodesBack.Statement .res_4_E := fun _ _ => rfl
theorem EncodingDecodesBack.res_4_H : EncodingDecodesBack.Statement .res_4_H := fun _ _ => rfl
theorem EncodingDecodesBack.res_4_L : EncodingDecodesBack.Statement .res_4_L := fun _ _ => rfl
theorem EncodingDecodesBack.res_4_atHL : EncodingDecodesBack.Statement .res_4_atHL := fun _ _ => rfl
theorem EncodingDecodesBack.res_4_A : EncodingDecodesBack.Statement .res_4_A := fun _ _ => rfl
theorem EncodingDecodesBack.res_5_B : EncodingDecodesBack.Statement .res_5_B := fun _ _ => rfl
theorem EncodingDecodesBack.res_5_C : EncodingDecodesBack.Statement .res_5_C := fun _ _ => rfl
theorem EncodingDecodesBack.res_5_D : EncodingDecodesBack.Statement .res_5_D := fun _ _ => rfl
theorem EncodingDecodesBack.res_5_E : EncodingDecodesBack.Statement .res_5_E := fun _ _ => rfl
theorem EncodingDecodesBack.res_5_H : EncodingDecodesBack.Statement .res_5_H := fun _ _ => rfl
theorem EncodingDecodesBack.res_5_L : EncodingDecodesBack.Statement .res_5_L := fun _ _ => rfl
theorem EncodingDecodesBack.res_5_atHL : EncodingDecodesBack.Statement .res_5_atHL := fun _ _ => rfl
theorem EncodingDecodesBack.res_5_A : EncodingDecodesBack.Statement .res_5_A := fun _ _ => rfl
theorem EncodingDecodesBack.res_6_B : EncodingDecodesBack.Statement .res_6_B := fun _ _ => rfl
theorem EncodingDecodesBack.res_6_C : EncodingDecodesBack.Statement .res_6_C := fun _ _ => rfl
theorem EncodingDecodesBack.res_6_D : EncodingDecodesBack.Statement .res_6_D := fun _ _ => rfl
theorem EncodingDecodesBack.res_6_E : EncodingDecodesBack.Statement .res_6_E := fun _ _ => rfl
theorem EncodingDecodesBack.res_6_H : EncodingDecodesBack.Statement .res_6_H := fun _ _ => rfl
theorem EncodingDecodesBack.res_6_L : EncodingDecodesBack.Statement .res_6_L := fun _ _ => rfl
theorem EncodingDecodesBack.res_6_atHL : EncodingDecodesBack.Statement .res_6_atHL := fun _ _ => rfl
theorem EncodingDecodesBack.res_6_A : EncodingDecodesBack.Statement .res_6_A := fun _ _ => rfl
theorem EncodingDecodesBack.res_7_B : EncodingDecodesBack.Statement .res_7_B := fun _ _ => rfl
theorem EncodingDecodesBack.res_7_C : EncodingDecodesBack.Statement .res_7_C := fun _ _ => rfl
theorem EncodingDecodesBack.res_7_D : EncodingDecodesBack.Statement .res_7_D := fun _ _ => rfl
theorem EncodingDecodesBack.res_7_E : EncodingDecodesBack.Statement .res_7_E := fun _ _ => rfl
theorem EncodingDecodesBack.res_7_H : EncodingDecodesBack.Statement .res_7_H := fun _ _ => rfl
theorem EncodingDecodesBack.res_7_L : EncodingDecodesBack.Statement .res_7_L := fun _ _ => rfl
theorem EncodingDecodesBack.res_7_atHL : EncodingDecodesBack.Statement .res_7_atHL := fun _ _ => rfl
theorem EncodingDecodesBack.res_7_A : EncodingDecodesBack.Statement .res_7_A := fun _ _ => rfl
theorem EncodingDecodesBack.set_0_B : EncodingDecodesBack.Statement .set_0_B := fun _ _ => rfl
theorem EncodingDecodesBack.set_0_C : EncodingDecodesBack.Statement .set_0_C := fun _ _ => rfl
theorem EncodingDecodesBack.set_0_D : EncodingDecodesBack.Statement .set_0_D := fun _ _ => rfl
theorem EncodingDecodesBack.set_0_E : EncodingDecodesBack.Statement .set_0_E := fun _ _ => rfl
theorem EncodingDecodesBack.set_0_H : EncodingDecodesBack.Statement .set_0_H := fun _ _ => rfl
theorem EncodingDecodesBack.set_0_L : EncodingDecodesBack.Statement .set_0_L := fun _ _ => rfl
theorem EncodingDecodesBack.set_0_atHL : EncodingDecodesBack.Statement .set_0_atHL := fun _ _ => rfl
theorem EncodingDecodesBack.set_0_A : EncodingDecodesBack.Statement .set_0_A := fun _ _ => rfl
theorem EncodingDecodesBack.set_1_B : EncodingDecodesBack.Statement .set_1_B := fun _ _ => rfl
theorem EncodingDecodesBack.set_1_C : EncodingDecodesBack.Statement .set_1_C := fun _ _ => rfl
theorem EncodingDecodesBack.set_1_D : EncodingDecodesBack.Statement .set_1_D := fun _ _ => rfl
theorem EncodingDecodesBack.set_1_E : EncodingDecodesBack.Statement .set_1_E := fun _ _ => rfl
theorem EncodingDecodesBack.set_1_H : EncodingDecodesBack.Statement .set_1_H := fun _ _ => rfl
theorem EncodingDecodesBack.set_1_L : EncodingDecodesBack.Statement .set_1_L := fun _ _ => rfl
theorem EncodingDecodesBack.set_1_atHL : EncodingDecodesBack.Statement .set_1_atHL := fun _ _ => rfl
theorem EncodingDecodesBack.set_1_A : EncodingDecodesBack.Statement .set_1_A := fun _ _ => rfl
theorem EncodingDecodesBack.set_2_B : EncodingDecodesBack.Statement .set_2_B := fun _ _ => rfl
theorem EncodingDecodesBack.set_2_C : EncodingDecodesBack.Statement .set_2_C := fun _ _ => rfl
theorem EncodingDecodesBack.set_2_D : EncodingDecodesBack.Statement .set_2_D := fun _ _ => rfl
theorem EncodingDecodesBack.set_2_E : EncodingDecodesBack.Statement .set_2_E := fun _ _ => rfl
theorem EncodingDecodesBack.set_2_H : EncodingDecodesBack.Statement .set_2_H := fun _ _ => rfl
theorem EncodingDecodesBack.set_2_L : EncodingDecodesBack.Statement .set_2_L := fun _ _ => rfl
theorem EncodingDecodesBack.set_2_atHL : EncodingDecodesBack.Statement .set_2_atHL := fun _ _ => rfl
theorem EncodingDecodesBack.set_2_A : EncodingDecodesBack.Statement .set_2_A := fun _ _ => rfl
theorem EncodingDecodesBack.set_3_B : EncodingDecodesBack.Statement .set_3_B := fun _ _ => rfl
theorem EncodingDecodesBack.set_3_C : EncodingDecodesBack.Statement .set_3_C := fun _ _ => rfl
theorem EncodingDecodesBack.set_3_D : EncodingDecodesBack.Statement .set_3_D := fun _ _ => rfl
theorem EncodingDecodesBack.set_3_E : EncodingDecodesBack.Statement .set_3_E := fun _ _ => rfl
theorem EncodingDecodesBack.set_3_H : EncodingDecodesBack.Statement .set_3_H := fun _ _ => rfl
theorem EncodingDecodesBack.set_3_L : EncodingDecodesBack.Statement .set_3_L := fun _ _ => rfl
theorem EncodingDecodesBack.set_3_atHL : EncodingDecodesBack.Statement .set_3_atHL := fun _ _ => rfl
theorem EncodingDecodesBack.set_3_A : EncodingDecodesBack.Statement .set_3_A := fun _ _ => rfl
theorem EncodingDecodesBack.set_4_B : EncodingDecodesBack.Statement .set_4_B := fun _ _ => rfl
theorem EncodingDecodesBack.set_4_C : EncodingDecodesBack.Statement .set_4_C := fun _ _ => rfl
theorem EncodingDecodesBack.set_4_D : EncodingDecodesBack.Statement .set_4_D := fun _ _ => rfl
theorem EncodingDecodesBack.set_4_E : EncodingDecodesBack.Statement .set_4_E := fun _ _ => rfl
theorem EncodingDecodesBack.set_4_H : EncodingDecodesBack.Statement .set_4_H := fun _ _ => rfl
theorem EncodingDecodesBack.set_4_L : EncodingDecodesBack.Statement .set_4_L := fun _ _ => rfl
theorem EncodingDecodesBack.set_4_atHL : EncodingDecodesBack.Statement .set_4_atHL := fun _ _ => rfl
theorem EncodingDecodesBack.set_4_A : EncodingDecodesBack.Statement .set_4_A := fun _ _ => rfl
theorem EncodingDecodesBack.set_5_B : EncodingDecodesBack.Statement .set_5_B := fun _ _ => rfl
theorem EncodingDecodesBack.set_5_C : EncodingDecodesBack.Statement .set_5_C := fun _ _ => rfl
theorem EncodingDecodesBack.set_5_D : EncodingDecodesBack.Statement .set_5_D := fun _ _ => rfl
theorem EncodingDecodesBack.set_5_E : EncodingDecodesBack.Statement .set_5_E := fun _ _ => rfl
theorem EncodingDecodesBack.set_5_H : EncodingDecodesBack.Statement .set_5_H := fun _ _ => rfl
theorem EncodingDecodesBack.set_5_L : EncodingDecodesBack.Statement .set_5_L := fun _ _ => rfl
theorem EncodingDecodesBack.set_5_atHL : EncodingDecodesBack.Statement .set_5_atHL := fun _ _ => rfl
theorem EncodingDecodesBack.set_5_A : EncodingDecodesBack.Statement .set_5_A := fun _ _ => rfl
theorem EncodingDecodesBack.set_6_B : EncodingDecodesBack.Statement .set_6_B := fun _ _ => rfl
theorem EncodingDecodesBack.set_6_C : EncodingDecodesBack.Statement .set_6_C := fun _ _ => rfl
theorem EncodingDecodesBack.set_6_D : EncodingDecodesBack.Statement .set_6_D := fun _ _ => rfl
theorem EncodingDecodesBack.set_6_E : EncodingDecodesBack.Statement .set_6_E := fun _ _ => rfl
theorem EncodingDecodesBack.set_6_H : EncodingDecodesBack.Statement .set_6_H := fun _ _ => rfl
theorem EncodingDecodesBack.set_6_L : EncodingDecodesBack.Statement .set_6_L := fun _ _ => rfl
theorem EncodingDecodesBack.set_6_atHL : EncodingDecodesBack.Statement .set_6_atHL := fun _ _ => rfl
theorem EncodingDecodesBack.set_6_A : EncodingDecodesBack.Statement .set_6_A := fun _ _ => rfl
theorem EncodingDecodesBack.set_7_B : EncodingDecodesBack.Statement .set_7_B := fun _ _ => rfl
theorem EncodingDecodesBack.set_7_C : EncodingDecodesBack.Statement .set_7_C := fun _ _ => rfl
theorem EncodingDecodesBack.set_7_D : EncodingDecodesBack.Statement .set_7_D := fun _ _ => rfl
theorem EncodingDecodesBack.set_7_E : EncodingDecodesBack.Statement .set_7_E := fun _ _ => rfl
theorem EncodingDecodesBack.set_7_H : EncodingDecodesBack.Statement .set_7_H := fun _ _ => rfl
theorem EncodingDecodesBack.set_7_L : EncodingDecodesBack.Statement .set_7_L := fun _ _ => rfl
theorem EncodingDecodesBack.set_7_atHL : EncodingDecodesBack.Statement .set_7_atHL := fun _ _ => rfl
theorem EncodingDecodesBack.set_7_A : EncodingDecodesBack.Statement .set_7_A := fun _ _ => rfl

theorem RowHasForm.nop : RowHasForm.Statement .nop := ⟨.nop, rfl⟩
theorem RowHasForm.ld_BC_n16 (w : Word) : RowHasForm.Statement (.ld_BC_n16 w) := ⟨.ldPair .bc w, rfl⟩
theorem RowHasForm.ld_atBC_A : RowHasForm.Statement .ld_atBC_A := ⟨.ldToInd .bc, rfl⟩
theorem RowHasForm.inc_BC : RowHasForm.Statement .inc_BC := ⟨.incPair .bc, rfl⟩
theorem RowHasForm.inc_B : RowHasForm.Statement .inc_B := ⟨.inc (.reg .b), rfl⟩
theorem RowHasForm.dec_B : RowHasForm.Statement .dec_B := ⟨.dec (.reg .b), rfl⟩
theorem RowHasForm.ld_B_n8 (n : Byte) : RowHasForm.Statement (.ld_B_n8 n) := ⟨.ldImm (.reg .b) n, rfl⟩
theorem RowHasForm.rlca : RowHasForm.Statement .rlca := ⟨.rotA .rlca, rfl⟩
theorem RowHasForm.ld_atA16_SP (a : Word) : RowHasForm.Statement (.ld_atA16_SP a) := ⟨.ldAbsSP a, rfl⟩
theorem RowHasForm.add_HL_BC : RowHasForm.Statement .add_HL_BC := ⟨.addHL .bc, rfl⟩
theorem RowHasForm.ld_A_atBC : RowHasForm.Statement .ld_A_atBC := ⟨.ldFromInd .bc, rfl⟩
theorem RowHasForm.dec_BC : RowHasForm.Statement .dec_BC := ⟨.decPair .bc, rfl⟩
theorem RowHasForm.inc_C : RowHasForm.Statement .inc_C := ⟨.inc (.reg .c), rfl⟩
theorem RowHasForm.dec_C : RowHasForm.Statement .dec_C := ⟨.dec (.reg .c), rfl⟩
theorem RowHasForm.ld_C_n8 (n : Byte) : RowHasForm.Statement (.ld_C_n8 n) := ⟨.ldImm (.reg .c) n, rfl⟩
theorem RowHasForm.rrca : RowHasForm.Statement .rrca := ⟨.rotA .rrca, rfl⟩
theorem RowHasForm.stop : RowHasForm.Statement .stop := ⟨.stop, rfl⟩
theorem RowHasForm.ld_DE_n16 (w : Word) : RowHasForm.Statement (.ld_DE_n16 w) := ⟨.ldPair .de w, rfl⟩
theorem RowHasForm.ld_atDE_A : RowHasForm.Statement .ld_atDE_A := ⟨.ldToInd .de, rfl⟩
theorem RowHasForm.inc_DE : RowHasForm.Statement .inc_DE := ⟨.incPair .de, rfl⟩
theorem RowHasForm.inc_D : RowHasForm.Statement .inc_D := ⟨.inc (.reg .d), rfl⟩
theorem RowHasForm.dec_D : RowHasForm.Statement .dec_D := ⟨.dec (.reg .d), rfl⟩
theorem RowHasForm.ld_D_n8 (n : Byte) : RowHasForm.Statement (.ld_D_n8 n) := ⟨.ldImm (.reg .d) n, rfl⟩
theorem RowHasForm.rla : RowHasForm.Statement .rla := ⟨.rotA .rla, rfl⟩
theorem RowHasForm.jr_e8 (e : Byte) : RowHasForm.Statement (.jr_e8 e) := ⟨.jr e, rfl⟩
theorem RowHasForm.add_HL_DE : RowHasForm.Statement .add_HL_DE := ⟨.addHL .de, rfl⟩
theorem RowHasForm.ld_A_atDE : RowHasForm.Statement .ld_A_atDE := ⟨.ldFromInd .de, rfl⟩
theorem RowHasForm.dec_DE : RowHasForm.Statement .dec_DE := ⟨.decPair .de, rfl⟩
theorem RowHasForm.inc_E : RowHasForm.Statement .inc_E := ⟨.inc (.reg .e), rfl⟩
theorem RowHasForm.dec_E : RowHasForm.Statement .dec_E := ⟨.dec (.reg .e), rfl⟩
theorem RowHasForm.ld_E_n8 (n : Byte) : RowHasForm.Statement (.ld_E_n8 n) := ⟨.ldImm (.reg .e) n, rfl⟩
theorem RowHasForm.rra : RowHasForm.Statement .rra := ⟨.rotA .rra, rfl⟩
theorem RowHasForm.jr_NZ_e8 (e : Byte) : RowHasForm.Statement (.jr_NZ_e8 e) := ⟨.jrIf .nz e, rfl⟩
theorem RowHasForm.ld_HL_n16 (w : Word) : RowHasForm.Statement (.ld_HL_n16 w) := ⟨.ldPair .hl w, rfl⟩
theorem RowHasForm.ld_atHLinc_A : RowHasForm.Statement .ld_atHLinc_A := ⟨.ldToInd .hlInc, rfl⟩
theorem RowHasForm.inc_HL : RowHasForm.Statement .inc_HL := ⟨.incPair .hl, rfl⟩
theorem RowHasForm.inc_H : RowHasForm.Statement .inc_H := ⟨.inc (.reg .h), rfl⟩
theorem RowHasForm.dec_H : RowHasForm.Statement .dec_H := ⟨.dec (.reg .h), rfl⟩
theorem RowHasForm.ld_H_n8 (n : Byte) : RowHasForm.Statement (.ld_H_n8 n) := ⟨.ldImm (.reg .h) n, rfl⟩
theorem RowHasForm.daa : RowHasForm.Statement .daa := ⟨.daa, rfl⟩
theorem RowHasForm.jr_Z_e8 (e : Byte) : RowHasForm.Statement (.jr_Z_e8 e) := ⟨.jrIf .z e, rfl⟩
theorem RowHasForm.add_HL_HL : RowHasForm.Statement .add_HL_HL := ⟨.addHL .hl, rfl⟩
theorem RowHasForm.ld_A_atHLinc : RowHasForm.Statement .ld_A_atHLinc := ⟨.ldFromInd .hlInc, rfl⟩
theorem RowHasForm.dec_HL : RowHasForm.Statement .dec_HL := ⟨.decPair .hl, rfl⟩
theorem RowHasForm.inc_L : RowHasForm.Statement .inc_L := ⟨.inc (.reg .l), rfl⟩
theorem RowHasForm.dec_L : RowHasForm.Statement .dec_L := ⟨.dec (.reg .l), rfl⟩
theorem RowHasForm.ld_L_n8 (n : Byte) : RowHasForm.Statement (.ld_L_n8 n) := ⟨.ldImm (.reg .l) n, rfl⟩
theorem RowHasForm.cpl : RowHasForm.Statement .cpl := ⟨.cpl, rfl⟩
theorem RowHasForm.jr_NC_e8 (e : Byte) : RowHasForm.Statement (.jr_NC_e8 e) := ⟨.jrIf .nc e, rfl⟩
theorem RowHasForm.ld_SP_n16 (w : Word) : RowHasForm.Statement (.ld_SP_n16 w) := ⟨.ldPair .sp w, rfl⟩
theorem RowHasForm.ld_atHLdec_A : RowHasForm.Statement .ld_atHLdec_A := ⟨.ldToInd .hlDec, rfl⟩
theorem RowHasForm.inc_SP : RowHasForm.Statement .inc_SP := ⟨.incPair .sp, rfl⟩
theorem RowHasForm.inc_atHL : RowHasForm.Statement .inc_atHL := ⟨.inc .atHL, rfl⟩
theorem RowHasForm.dec_atHL : RowHasForm.Statement .dec_atHL := ⟨.dec .atHL, rfl⟩
theorem RowHasForm.ld_atHL_n8 (n : Byte) : RowHasForm.Statement (.ld_atHL_n8 n) := ⟨.ldImm .atHL n, rfl⟩
theorem RowHasForm.scf : RowHasForm.Statement .scf := ⟨.scf, rfl⟩
theorem RowHasForm.jr_C_e8 (e : Byte) : RowHasForm.Statement (.jr_C_e8 e) := ⟨.jrIf .c e, rfl⟩
theorem RowHasForm.add_HL_SP : RowHasForm.Statement .add_HL_SP := ⟨.addHL .sp, rfl⟩
theorem RowHasForm.ld_A_atHLdec : RowHasForm.Statement .ld_A_atHLdec := ⟨.ldFromInd .hlDec, rfl⟩
theorem RowHasForm.dec_SP : RowHasForm.Statement .dec_SP := ⟨.decPair .sp, rfl⟩
theorem RowHasForm.inc_A : RowHasForm.Statement .inc_A := ⟨.inc (.reg .a), rfl⟩
theorem RowHasForm.dec_A : RowHasForm.Statement .dec_A := ⟨.dec (.reg .a), rfl⟩
theorem RowHasForm.ld_A_n8 (n : Byte) : RowHasForm.Statement (.ld_A_n8 n) := ⟨.ldImm (.reg .a) n, rfl⟩
theorem RowHasForm.ccf : RowHasForm.Statement .ccf := ⟨.ccf, rfl⟩
theorem RowHasForm.ld_B_B : RowHasForm.Statement .ld_B_B := ⟨.ldReg .b (.reg .b), rfl⟩
theorem RowHasForm.ld_B_C : RowHasForm.Statement .ld_B_C := ⟨.ldReg .b (.reg .c), rfl⟩
theorem RowHasForm.ld_B_D : RowHasForm.Statement .ld_B_D := ⟨.ldReg .b (.reg .d), rfl⟩
theorem RowHasForm.ld_B_E : RowHasForm.Statement .ld_B_E := ⟨.ldReg .b (.reg .e), rfl⟩
theorem RowHasForm.ld_B_H : RowHasForm.Statement .ld_B_H := ⟨.ldReg .b (.reg .h), rfl⟩
theorem RowHasForm.ld_B_L : RowHasForm.Statement .ld_B_L := ⟨.ldReg .b (.reg .l), rfl⟩
theorem RowHasForm.ld_B_atHL : RowHasForm.Statement .ld_B_atHL := ⟨.ldReg .b .atHL, rfl⟩
theorem RowHasForm.ld_B_A : RowHasForm.Statement .ld_B_A := ⟨.ldReg .b (.reg .a), rfl⟩
theorem RowHasForm.ld_C_B : RowHasForm.Statement .ld_C_B := ⟨.ldReg .c (.reg .b), rfl⟩
theorem RowHasForm.ld_C_C : RowHasForm.Statement .ld_C_C := ⟨.ldReg .c (.reg .c), rfl⟩
theorem RowHasForm.ld_C_D : RowHasForm.Statement .ld_C_D := ⟨.ldReg .c (.reg .d), rfl⟩
theorem RowHasForm.ld_C_E : RowHasForm.Statement .ld_C_E := ⟨.ldReg .c (.reg .e), rfl⟩
theorem RowHasForm.ld_C_H : RowHasForm.Statement .ld_C_H := ⟨.ldReg .c (.reg .h), rfl⟩
theorem RowHasForm.ld_C_L : RowHasForm.Statement .ld_C_L := ⟨.ldReg .c (.reg .l), rfl⟩
theorem RowHasForm.ld_C_atHL : RowHasForm.Statement .ld_C_atHL := ⟨.ldReg .c .atHL, rfl⟩
theorem RowHasForm.ld_C_A : RowHasForm.Statement .ld_C_A := ⟨.ldReg .c (.reg .a), rfl⟩
theorem RowHasForm.ld_D_B : RowHasForm.Statement .ld_D_B := ⟨.ldReg .d (.reg .b), rfl⟩
theorem RowHasForm.ld_D_C : RowHasForm.Statement .ld_D_C := ⟨.ldReg .d (.reg .c), rfl⟩
theorem RowHasForm.ld_D_D : RowHasForm.Statement .ld_D_D := ⟨.ldReg .d (.reg .d), rfl⟩
theorem RowHasForm.ld_D_E : RowHasForm.Statement .ld_D_E := ⟨.ldReg .d (.reg .e), rfl⟩
theorem RowHasForm.ld_D_H : RowHasForm.Statement .ld_D_H := ⟨.ldReg .d (.reg .h), rfl⟩
theorem RowHasForm.ld_D_L : RowHasForm.Statement .ld_D_L := ⟨.ldReg .d (.reg .l), rfl⟩
theorem RowHasForm.ld_D_atHL : RowHasForm.Statement .ld_D_atHL := ⟨.ldReg .d .atHL, rfl⟩
theorem RowHasForm.ld_D_A : RowHasForm.Statement .ld_D_A := ⟨.ldReg .d (.reg .a), rfl⟩
theorem RowHasForm.ld_E_B : RowHasForm.Statement .ld_E_B := ⟨.ldReg .e (.reg .b), rfl⟩
theorem RowHasForm.ld_E_C : RowHasForm.Statement .ld_E_C := ⟨.ldReg .e (.reg .c), rfl⟩
theorem RowHasForm.ld_E_D : RowHasForm.Statement .ld_E_D := ⟨.ldReg .e (.reg .d), rfl⟩
theorem RowHasForm.ld_E_E : RowHasForm.Statement .ld_E_E := ⟨.ldReg .e (.reg .e), rfl⟩
theorem RowHasForm.ld_E_H : RowHasForm.Statement .ld_E_H := ⟨.ldReg .e (.reg .h), rfl⟩
theorem RowHasForm.ld_E_L : RowHasForm.Statement .ld_E_L := ⟨.ldReg .e (.reg .l), rfl⟩
theorem RowHasForm.ld_E_atHL : RowHasForm.Statement .ld_E_atHL := ⟨.ldReg .e .atHL, rfl⟩
theorem RowHasForm.ld_E_A : RowHasForm.Statement .ld_E_A := ⟨.ldReg .e (.reg .a), rfl⟩
theorem RowHasForm.ld_H_B : RowHasForm.Statement .ld_H_B := ⟨.ldReg .h (.reg .b), rfl⟩
theorem RowHasForm.ld_H_C : RowHasForm.Statement .ld_H_C := ⟨.ldReg .h (.reg .c), rfl⟩
theorem RowHasForm.ld_H_D : RowHasForm.Statement .ld_H_D := ⟨.ldReg .h (.reg .d), rfl⟩
theorem RowHasForm.ld_H_E : RowHasForm.Statement .ld_H_E := ⟨.ldReg .h (.reg .e), rfl⟩
theorem RowHasForm.ld_H_H : RowHasForm.Statement .ld_H_H := ⟨.ldReg .h (.reg .h), rfl⟩
theorem RowHasForm.ld_H_L : RowHasForm.Statement .ld_H_L := ⟨.ldReg .h (.reg .l), rfl⟩
theorem RowHasForm.ld_H_atHL : RowHasForm.Statement .ld_H_atHL := ⟨.ldReg .h .atHL, rfl⟩
theorem RowHasForm.ld_H_A : RowHasForm.Statement .ld_H_A := ⟨.ldReg .h (.reg .a), rfl⟩
theorem RowHasForm.ld_L_B : RowHasForm.Statement .ld_L_B := ⟨.ldReg .l (.reg .b), rfl⟩
theorem RowHasForm.ld_L_C : RowHasForm.Statement .ld_L_C := ⟨.ldReg .l (.reg .c), rfl⟩
theorem RowHasForm.ld_L_D : RowHasForm.Statement .ld_L_D := ⟨.ldReg .l (.reg .d), rfl⟩
theorem RowHasForm.ld_L_E : RowHasForm.Statement .ld_L_E := ⟨.ldReg .l (.reg .e), rfl⟩
theorem RowHasForm.ld_L_H : RowHasForm.Statement .ld_L_H := ⟨.ldReg .l (.reg .h), rfl⟩
theorem RowHasForm.ld_L_L : RowHasForm.Statement .ld_L_L := ⟨.ldReg .l (.reg .l), rfl⟩
theorem RowHasForm.ld_L_atHL : RowHasForm.Statement .ld_L_atHL := ⟨.ldReg .l .atHL, rfl⟩
theorem RowHasForm.ld_L_A : RowHasForm.Statement .ld_L_A := ⟨.ldReg .l (.reg .a), rfl⟩
theorem RowHasForm.ld_atHL_B : RowHasForm.Statement .ld_atHL_B := ⟨.ldStore .b, rfl⟩
theorem RowHasForm.ld_atHL_C : RowHasForm.Statement .ld_atHL_C := ⟨.ldStore .c, rfl⟩
theorem RowHasForm.ld_atHL_D : RowHasForm.Statement .ld_atHL_D := ⟨.ldStore .d, rfl⟩
theorem RowHasForm.ld_atHL_E : RowHasForm.Statement .ld_atHL_E := ⟨.ldStore .e, rfl⟩
theorem RowHasForm.ld_atHL_H : RowHasForm.Statement .ld_atHL_H := ⟨.ldStore .h, rfl⟩
theorem RowHasForm.ld_atHL_L : RowHasForm.Statement .ld_atHL_L := ⟨.ldStore .l, rfl⟩
theorem RowHasForm.halt : RowHasForm.Statement .halt := ⟨.halt, rfl⟩
theorem RowHasForm.ld_atHL_A : RowHasForm.Statement .ld_atHL_A := ⟨.ldStore .a, rfl⟩
theorem RowHasForm.ld_A_B : RowHasForm.Statement .ld_A_B := ⟨.ldReg .a (.reg .b), rfl⟩
theorem RowHasForm.ld_A_C : RowHasForm.Statement .ld_A_C := ⟨.ldReg .a (.reg .c), rfl⟩
theorem RowHasForm.ld_A_D : RowHasForm.Statement .ld_A_D := ⟨.ldReg .a (.reg .d), rfl⟩
theorem RowHasForm.ld_A_E : RowHasForm.Statement .ld_A_E := ⟨.ldReg .a (.reg .e), rfl⟩
theorem RowHasForm.ld_A_H : RowHasForm.Statement .ld_A_H := ⟨.ldReg .a (.reg .h), rfl⟩
theorem RowHasForm.ld_A_L : RowHasForm.Statement .ld_A_L := ⟨.ldReg .a (.reg .l), rfl⟩
theorem RowHasForm.ld_A_atHL : RowHasForm.Statement .ld_A_atHL := ⟨.ldReg .a .atHL, rfl⟩
theorem RowHasForm.ld_A_A : RowHasForm.Statement .ld_A_A := ⟨.ldReg .a (.reg .a), rfl⟩
theorem RowHasForm.add_A_B : RowHasForm.Statement .add_A_B := ⟨.alu .add (.reg .b), rfl⟩
theorem RowHasForm.add_A_C : RowHasForm.Statement .add_A_C := ⟨.alu .add (.reg .c), rfl⟩
theorem RowHasForm.add_A_D : RowHasForm.Statement .add_A_D := ⟨.alu .add (.reg .d), rfl⟩
theorem RowHasForm.add_A_E : RowHasForm.Statement .add_A_E := ⟨.alu .add (.reg .e), rfl⟩
theorem RowHasForm.add_A_H : RowHasForm.Statement .add_A_H := ⟨.alu .add (.reg .h), rfl⟩
theorem RowHasForm.add_A_L : RowHasForm.Statement .add_A_L := ⟨.alu .add (.reg .l), rfl⟩
theorem RowHasForm.add_A_atHL : RowHasForm.Statement .add_A_atHL := ⟨.alu .add .atHL, rfl⟩
theorem RowHasForm.add_A_A : RowHasForm.Statement .add_A_A := ⟨.alu .add (.reg .a), rfl⟩
theorem RowHasForm.adc_A_B : RowHasForm.Statement .adc_A_B := ⟨.alu .adc (.reg .b), rfl⟩
theorem RowHasForm.adc_A_C : RowHasForm.Statement .adc_A_C := ⟨.alu .adc (.reg .c), rfl⟩
theorem RowHasForm.adc_A_D : RowHasForm.Statement .adc_A_D := ⟨.alu .adc (.reg .d), rfl⟩
theorem RowHasForm.adc_A_E : RowHasForm.Statement .adc_A_E := ⟨.alu .adc (.reg .e), rfl⟩
theorem RowHasForm.adc_A_H : RowHasForm.Statement .adc_A_H := ⟨.alu .adc (.reg .h), rfl⟩
theorem RowHasForm.adc_A_L : RowHasForm.Statement .adc_A_L := ⟨.alu .adc (.reg .l), rfl⟩
theorem RowHasForm.adc_A_atHL : RowHasForm.Statement .adc_A_atHL := ⟨.alu .adc .atHL, rfl⟩
theorem RowHasForm.adc_A_A : RowHasForm.Statement .adc_A_A := ⟨.alu .adc (.reg .a), rfl⟩
theorem RowHasForm.sub_B : RowHasForm.Statement .sub_B := ⟨.alu .sub (.reg .b), rfl⟩
theorem RowHasForm.sub_C : RowHasForm.Statement .sub_C := ⟨.alu .sub (.reg .c), rfl⟩
theorem RowHasForm.sub_D : RowHasForm.Statement .sub_D := ⟨.alu .sub (.reg .d), rfl⟩
theorem RowHasForm.sub_E : RowHasForm.Statement .sub_E := ⟨.alu .sub (.reg .e), rfl⟩
theorem RowHasForm.sub_H : RowHasForm.Statement .sub_H := ⟨.alu .sub (.reg .h), rfl⟩
theorem RowHasForm.sub_L : RowHasForm.Statement .sub_L := ⟨.alu .sub (.reg .l), rfl⟩
theorem RowHasForm.sub_atHL : RowHasForm.Statement .sub_atHL := ⟨.alu .sub .atHL, rfl⟩
theorem RowHasForm.sub_A : RowHasForm.Statement .sub_A := ⟨.alu .sub (.reg .a), rfl⟩
theorem RowHasForm.sbc_A_B : RowHasForm.Statement .sbc_A_B := ⟨.alu .sbc (.reg .b), rfl⟩
theorem RowHasForm.sbc_A_C : RowHasForm.Statement .sbc_A_C := ⟨.alu .sbc (.reg .c), rfl⟩
theorem RowHasForm.sbc_A_D : RowHasForm.Statement .sbc_A_D := ⟨.alu .sbc (.reg .d), rfl⟩
theorem RowHasForm.sbc_A_E : RowHasForm.Statement .sbc_A_E := ⟨.alu .sbc (.reg .e), rfl⟩
theorem RowHasForm.sbc_A_H : RowHasForm.Statement .sbc_A_H := ⟨.alu .sbc (.reg .h), rfl⟩
theorem RowHasForm.sbc_A_L : RowHasForm.Statement .sbc_A_L := ⟨.alu .sbc (.reg .l), rfl⟩
theorem RowHasForm.sbc_A_atHL : RowHasForm.Statement .sbc_A_atHL := ⟨.alu .sbc .atHL, rfl⟩
theorem RowHasForm.sbc_A_A : RowHasForm.Statement .sbc_A_A := ⟨.alu .sbc (.reg .a), rfl⟩
theorem RowHasForm.and_B : RowHasForm.Statement .and_B := ⟨.alu .and (.reg .b), rfl⟩
theorem RowHasForm.and_C : RowHasForm.Statement .and_C := ⟨.alu .and (.reg .c), rfl⟩
theorem RowHasForm.and_D : RowHasForm.Statement .and_D := ⟨.alu .and (.reg .d), rfl⟩
theorem RowHasForm.and_E : RowHasForm.Statement .and_E := ⟨.alu .and (.reg .e), rfl⟩
theorem RowHasForm.and_H : RowHasForm.Statement .and_H := ⟨.alu .and (.reg .h), rfl⟩
theorem RowHasForm.and_L : RowHasForm.Statement .and_L := ⟨.alu .and (.reg .l), rfl⟩
theorem RowHasForm.and_atHL : RowHasForm.Statement .and_atHL := ⟨.alu .and .atHL, rfl⟩
theorem RowHasForm.and_A : RowHasForm.Statement .and_A := ⟨.alu .and (.reg .a), rfl⟩
theorem RowHasForm.xor_B : RowHasForm.Statement .xor_B := ⟨.alu .xor (.reg .b), rfl⟩
theorem RowHasForm.xor_C : RowHasForm.Statement .xor_C := ⟨.alu .xor (.reg .c), rfl⟩
theorem RowHasForm.xor_D : RowHasForm.Statement .xor_D := ⟨.alu .xor (.reg .d), rfl⟩
theorem RowHasForm.xor_E : RowHasForm.Statement .xor_E := ⟨.alu .xor (.reg .e), rfl⟩
theorem RowHasForm.xor_H : RowHasForm.Statement .xor_H := ⟨.alu .xor (.reg .h), rfl⟩
theorem RowHasForm.xor_L : RowHasForm.Statement .xor_L := ⟨.alu .xor (.reg .l), rfl⟩
theorem RowHasForm.xor_atHL : RowHasForm.Statement .xor_atHL := ⟨.alu .xor .atHL, rfl⟩
theorem RowHasForm.xor_A : RowHasForm.Statement .xor_A := ⟨.alu .xor (.reg .a), rfl⟩
theorem RowHasForm.or_B : RowHasForm.Statement .or_B := ⟨.alu .or (.reg .b), rfl⟩
theorem RowHasForm.or_C : RowHasForm.Statement .or_C := ⟨.alu .or (.reg .c), rfl⟩
theorem RowHasForm.or_D : RowHasForm.Statement .or_D := ⟨.alu .or (.reg .d), rfl⟩
theorem RowHasForm.or_E : RowHasForm.Statement .or_E := ⟨.alu .or (.reg .e), rfl⟩
theorem RowHasForm.or_H : RowHasForm.Statement .or_H := ⟨.alu .or (.reg .h), rfl⟩
theorem RowHasForm.or_L : RowHasForm.Statement .or_L := ⟨.alu .or (.reg .l), rfl⟩
theorem RowHasForm.or_atHL : RowHasForm.Statement .or_atHL := ⟨.alu .or .atHL, rfl⟩
theorem RowHasForm.or_A : RowHasForm.Statement .or_A := ⟨.alu .or (.reg .a), rfl⟩
theorem RowHasForm.cp_B : RowHasForm.Statement .cp_B := ⟨.alu .cp (.reg .b), rfl⟩
theorem RowHasForm.cp_C : RowHasForm.Statement .cp_C := ⟨.alu .cp (.reg .c), rfl⟩
theorem RowHasForm.cp_D : RowHasForm.Statement .cp_D := ⟨.alu .cp (.reg .d), rfl⟩
theorem RowHasForm.cp_E : RowHasForm.Statement .cp_E := ⟨.alu .cp (.reg .e), rfl⟩
theorem RowHasForm.cp_H : RowHasForm.Statement .cp_H := ⟨.alu .cp (.reg .h), rfl⟩
theorem RowHasForm.cp_L : RowHasForm.Statement .cp_L := ⟨.alu .cp (.reg .l), rfl⟩
theorem RowHasForm.cp_atHL : RowHasForm.Statement .cp_atHL := ⟨.alu .cp .atHL, rfl⟩
theorem RowHasForm.cp_A : RowHasForm.Statement .cp_A := ⟨.alu .cp (.reg .a), rfl⟩
theorem RowHasForm.ret_NZ : RowHasForm.Statement .ret_NZ := ⟨.retIf .nz, rfl⟩
theorem RowHasForm.pop_BC : RowHasForm.Statement .pop_BC := ⟨.pop .bc, rfl⟩
theorem RowHasForm.jp_NZ_a16 (a : Word) : RowHasForm.Statement (.jp_NZ_a16 a) := ⟨.jpIf .nz a, rfl⟩
theorem RowHasForm.jp_a16 (a : Word) : RowHasForm.Statement (.jp_a16 a) := ⟨.jp a, rfl⟩
theorem RowHasForm.call_NZ_a16 (a : Word) : RowHasForm.Statement (.call_NZ_a16 a) := ⟨.callIf .nz a, rfl⟩
theorem RowHasForm.push_BC : RowHasForm.Statement .push_BC := ⟨.push .bc, rfl⟩
theorem RowHasForm.add_A_n8 (n : Byte) : RowHasForm.Statement (.add_A_n8 n) := ⟨.aluImm .add n, rfl⟩
theorem RowHasForm.rst_00 : RowHasForm.Statement .rst_00 := ⟨.rst .o0, rfl⟩
theorem RowHasForm.ret_Z : RowHasForm.Statement .ret_Z := ⟨.retIf .z, rfl⟩
theorem RowHasForm.ret : RowHasForm.Statement .ret := ⟨.ret, rfl⟩
theorem RowHasForm.jp_Z_a16 (a : Word) : RowHasForm.Statement (.jp_Z_a16 a) := ⟨.jpIf .z a, rfl⟩
theorem RowHasForm.call_Z_a16 (a : Word) : RowHasForm.Statement (.call_Z_a16 a) := ⟨.callIf .z a, rfl⟩
theorem RowHasForm.call_a16 (a : Word) : RowHasForm.Statement (.call_a16 a) := ⟨.call a, rfl⟩
theorem RowHasForm.adc_A_n8 (n : Byte) : RowHasForm.Statement (.adc_A_n8 n) := ⟨.aluImm .adc n, rfl⟩
theorem RowHasForm.rst_08 : RowHasForm.Statement .rst_08 := ⟨.rst .o1, rfl⟩
theorem RowHasForm.ret_NC : RowHasForm.Statement .ret_NC := ⟨.retIf .nc, rfl⟩
theorem RowHasForm.pop_DE : RowHasForm.Statement .pop_DE := ⟨.pop .de, rfl⟩
theorem RowHasForm.jp_NC_a16 (a : Word) : RowHasForm.Statement (.jp_NC_a16 a) := ⟨.jpIf .nc a, rfl⟩
theorem RowHasForm.unused_D3 : RowHasForm.Statement .unused_D3 := ⟨.unused .xD3, rfl⟩
theorem RowHasForm.call_NC_a16 (a : Word) : RowHasForm.Statement (.call_NC_a16 a) := ⟨.callIf .nc a, rfl⟩
theorem RowHasForm.push_DE : RowHasForm.Statement .push_DE := ⟨.push .de, rfl⟩
theorem RowHasForm.sub_n8 (n : Byte) : RowHasForm.Statement (.sub_n8 n) := ⟨.aluImm .sub n, rfl⟩
theorem RowHasForm.rst_10 : RowHasForm.Statement .rst_10 := ⟨.rst .o2, rfl⟩
theorem RowHasForm.ret_C : RowHasForm.Statement .ret_C := ⟨.retIf .c, rfl⟩
theorem RowHasForm.reti : RowHasForm.Statement .reti := ⟨.reti, rfl⟩
theorem RowHasForm.jp_C_a16 (a : Word) : RowHasForm.Statement (.jp_C_a16 a) := ⟨.jpIf .c a, rfl⟩
theorem RowHasForm.unused_DB : RowHasForm.Statement .unused_DB := ⟨.unused .xDB, rfl⟩
theorem RowHasForm.call_C_a16 (a : Word) : RowHasForm.Statement (.call_C_a16 a) := ⟨.callIf .c a, rfl⟩
theorem RowHasForm.unused_DD : RowHasForm.Statement .unused_DD := ⟨.unused .xDD, rfl⟩
theorem RowHasForm.sbc_A_n8 (n : Byte) : RowHasForm.Statement (.sbc_A_n8 n) := ⟨.aluImm .sbc n, rfl⟩
theorem RowHasForm.rst_18 : RowHasForm.Statement .rst_18 := ⟨.rst .o3, rfl⟩
theorem RowHasForm.ldh_atA8_A (n : Byte) : RowHasForm.Statement (.ldh_atA8_A n) := ⟨.ldhStore n, rfl⟩
theorem RowHasForm.pop_HL : RowHasForm.Statement .pop_HL := ⟨.pop .hl, rfl⟩
theorem RowHasForm.ld_atC_A : RowHasForm.Statement .ld_atC_A := ⟨.ldCStore, rfl⟩
theorem RowHasForm.unused_E3 : RowHasForm.Statement .unused_E3 := ⟨.unused .xE3, rfl⟩
theorem RowHasForm.unused_E4 : RowHasForm.Statement .unused_E4 := ⟨.unused .xE4, rfl⟩
theorem RowHasForm.push_HL : RowHasForm.Statement .push_HL := ⟨.push .hl, rfl⟩
theorem RowHasForm.and_n8 (n : Byte) : RowHasForm.Statement (.and_n8 n) := ⟨.aluImm .and n, rfl⟩
theorem RowHasForm.rst_20 : RowHasForm.Statement .rst_20 := ⟨.rst .o4, rfl⟩
theorem RowHasForm.add_SP_e8 (e : Byte) : RowHasForm.Statement (.add_SP_e8 e) := ⟨.addSP e, rfl⟩
theorem RowHasForm.jp_HL : RowHasForm.Statement .jp_HL := ⟨.jpHL, rfl⟩
theorem RowHasForm.ld_atA16_A (a : Word) : RowHasForm.Statement (.ld_atA16_A a) := ⟨.ldAbsStore a, rfl⟩
theorem RowHasForm.unused_EB : RowHasForm.Statement .unused_EB := ⟨.unused .xEB, rfl⟩
theorem RowHasForm.unused_EC : RowHasForm.Statement .unused_EC := ⟨.unused .xEC, rfl⟩
theorem RowHasForm.unused_ED : RowHasForm.Statement .unused_ED := ⟨.unused .xED, rfl⟩
theorem RowHasForm.xor_n8 (n : Byte) : RowHasForm.Statement (.xor_n8 n) := ⟨.aluImm .xor n, rfl⟩
theorem RowHasForm.rst_28 : RowHasForm.Statement .rst_28 := ⟨.rst .o5, rfl⟩
theorem RowHasForm.ldh_A_atA8 (n : Byte) : RowHasForm.Statement (.ldh_A_atA8 n) := ⟨.ldhLoad n, rfl⟩
theorem RowHasForm.pop_AF : RowHasForm.Statement .pop_AF := ⟨.pop .af, rfl⟩
theorem RowHasForm.ld_A_atC : RowHasForm.Statement .ld_A_atC := ⟨.ldCLoad, rfl⟩
theorem RowHasForm.di : RowHasForm.Statement .di := ⟨.di, rfl⟩
theorem RowHasForm.unused_F4 : RowHasForm.Statement .unused_F4 := ⟨.unused .xF4, rfl⟩
theorem RowHasForm.push_AF : RowHasForm.Statement .push_AF := ⟨.push .af, rfl⟩
theorem RowHasForm.or_n8 (n : Byte) : RowHasForm.Statement (.or_n8 n) := ⟨.aluImm .or n, rfl⟩
theorem RowHasForm.rst_30 : RowHasForm.Statement .rst_30 := ⟨.rst .o6, rfl⟩
theorem RowHasForm.ld_HL_SPe8 (e : Byte) : RowHasForm.Statement (.ld_HL_SPe8 e) := ⟨.ldHLSP e, rfl⟩
theorem RowHasForm.ld_SP_HL : RowHasForm.Statement .ld_SP_HL := ⟨.ldSPHL, rfl⟩
theorem RowHasForm.ld_A_atA16 (a : Word) : RowHasForm.Statement (.ld_A_atA16 a) := ⟨.ldAbsLoad a, rfl⟩
theorem RowHasForm.ei : RowHasForm.Statement .ei := ⟨.ei, rfl⟩
theorem RowHasForm.unused_FC : RowHasForm.Statement .unused_FC := ⟨.unused .xFC, rfl⟩
theorem RowHasForm.unused_FD : RowHasForm.Statement .unused_FD := ⟨.unused .xFD, rfl⟩
theorem RowHasForm.cp_n8 (n : Byte) : RowHasForm.Statement (.cp_n8 n) := ⟨.aluImm .cp n, rfl⟩
theorem RowHasForm.rst_38 : RowHasForm.Statement .rst_38 := ⟨.rst .o7, rfl⟩
theorem RowHasForm.rlc_B : RowHasForm.Statement .rlc_B := ⟨.shift .rlc (.reg .b), rfl⟩
theorem RowHasForm.rlc_C : RowHasForm.Statement .rlc_C := ⟨.shift .rlc (.reg .c), rfl⟩
theorem RowHasForm.rlc_D : RowHasForm.Statement .rlc_D := ⟨.shift .rlc (.reg .d), rfl⟩
theorem RowHasForm.rlc_E : RowHasForm.Statement .rlc_E := ⟨.shift .rlc (.reg .e), rfl⟩
theorem RowHasForm.rlc_H : RowHasForm.Statement .rlc_H := ⟨.shift .rlc (.reg .h), rfl⟩
theorem RowHasForm.rlc_L : RowHasForm.Statement .rlc_L := ⟨.shift .rlc (.reg .l), rfl⟩
theorem RowHasForm.rlc_atHL : RowHasForm.Statement .rlc_atHL := ⟨.shift .rlc .atHL, rfl⟩
theorem RowHasForm.rlc_A : RowHasForm.Statement .rlc_A := ⟨.shift .rlc (.reg .a), rfl⟩
theorem RowHasForm.rrc_B : RowHasForm.Statement .rrc_B := ⟨.shift .rrc (.reg .b), rfl⟩
theorem RowHasForm.rrc_C : RowHasForm.Statement .rrc_C := ⟨.shift .rrc (.reg .c), rfl⟩
theorem RowHasForm.rrc_D : RowHasForm.Statement .rrc_D := ⟨.shift .rrc (.reg .d), rfl⟩
theorem RowHasForm.rrc_E : RowHasForm.Statement .rrc_E := ⟨.shift .rrc (.reg .e), rfl⟩
theorem RowHasForm.rrc_H : RowHasForm.Statement .rrc_H := ⟨.shift .rrc (.reg .h), rfl⟩
theorem RowHasForm.rrc_L : RowHasForm.Statement .rrc_L := ⟨.shift .rrc (.reg .l), rfl⟩
theorem RowHasForm.rrc_atHL : RowHasForm.Statement .rrc_atHL := ⟨.shift .rrc .atHL, rfl⟩
theorem RowHasForm.rrc_A : RowHasForm.Statement .rrc_A := ⟨.shift .rrc (.reg .a), rfl⟩
theorem RowHasForm.rl_B : RowHasForm.Statement .rl_B := ⟨.shift .rl (.reg .b), rfl⟩
theorem RowHasForm.rl_C : RowHasForm.Statement .rl_C := ⟨.shift .rl (.reg .c), rfl⟩
theorem RowHasForm.rl_D : RowHasForm.Statement .rl_D := ⟨.shift .rl (.reg .d), rfl⟩
theorem RowHasForm.rl_E : RowHasForm.Statement .rl_E := ⟨.shift .rl (.reg .e), rfl⟩
theorem RowHasForm.rl_H : RowHasForm.Statement .rl_H := ⟨.shift .rl (.reg .h), rfl⟩
theorem RowHasForm.rl_L : RowHasForm.Statement .rl_L := ⟨.shift .rl (.reg .l), rfl⟩
theorem RowHasForm.rl_atHL : RowHasForm.Statement .rl_atHL := ⟨.shift .rl .atHL, rfl⟩
theorem RowHasForm.rl_A : RowHasForm.Statement .rl_A := ⟨.shift .rl (.reg .a), rfl⟩
theorem RowHasForm.rr_B : RowHasForm.Statement .rr_B := ⟨.shift .rr (.reg .b), rfl⟩
theorem RowHasForm.rr_C : RowHasForm.Statement .rr_C := ⟨.shift .rr (.reg .c), rfl⟩
theorem RowHasForm.rr_D : RowHasForm.Statement .rr_D := ⟨.shift .rr (.reg .d), rfl⟩
theorem RowHasForm.rr_E : RowHasForm.Statement .rr_E := ⟨.shift .rr (.reg .e), rfl⟩
theorem RowHasForm.rr_H : RowHasForm.Statement .rr_H := ⟨.shift .rr (.reg .h), rfl⟩
theorem RowHasForm.rr_L : RowHasForm.Statement .rr_L := ⟨.shift .rr (.reg .l), rfl⟩
theorem RowHasForm.rr_atHL : RowHasForm.Statement .rr_atHL := ⟨.shift .rr .atHL, rfl⟩
theorem RowHasForm.rr_A : RowHasForm.Statement .rr_A := ⟨.shift .rr (.reg .a), rfl⟩
theorem RowHasForm.sla_B : RowHasForm.Statement .sla_B := ⟨.shift .sla (.reg .b), rfl⟩
theorem RowHasForm.sla_C : RowHasForm.Statement .sla_C := ⟨.shift .sla (.reg .c), rfl⟩
theorem RowHasForm.sla_D : RowHasForm.Statement .sla_D := ⟨.shift .sla (.reg .d), rfl⟩
theorem RowHasForm.sla_E : RowHasForm.Statement .sla_E := ⟨.shift .sla (.reg .e), rfl⟩
theorem RowHasForm.sla_H : RowHasForm.Statement .sla_H := ⟨.shift .sla (.reg .h), rfl⟩
theorem RowHasForm.sla_L : RowHasForm.Statement .sla_L := ⟨.shift .sla (.reg .l), rfl⟩
theorem RowHasForm.sla_atHL : RowHasForm.Statement .sla_atHL := ⟨.shift .sla .atHL, rfl⟩
theorem RowHasForm.sla_A : RowHasForm.Statement .sla_A := ⟨.shift .sla (.reg .a), rfl⟩
theorem RowHasForm.sra_B : RowHasForm.Statement .sra_B := ⟨.shift .sra (.reg .b), rfl⟩
theorem RowHasForm.sra_C : RowHasForm.Statement .sra_C := ⟨.shift .sra (.reg .c), rfl⟩
theorem RowHasForm.sra_D : RowHasForm.Statement .sra_D := ⟨.shift .sra (.reg .d), rfl⟩
theorem RowHasForm.sra_E : RowHasForm.Statement .sra_E := ⟨.shift .sra (.reg .e), rfl⟩
theorem RowHasForm.sra_H : RowHasForm.Statement .sra_H := ⟨.shift .sra (.reg .h), rfl⟩
theorem RowHasForm.sra_L : RowHasForm.Statement .sra_L := ⟨.shift .sra (.reg .l), rfl⟩
theorem RowHasForm.sra_atHL : RowHasForm.Statement .sra_atHL := ⟨.shift .sra .atHL, rfl⟩
theorem RowHasForm.sra_A : RowHasForm.Statement .sra_A := ⟨.shift .sra (.reg .a), rfl⟩
theorem RowHasForm.swap_B : RowHasForm.Statement .swap_B := ⟨.shift .swap (.reg .b), rfl⟩
theorem RowHasForm.swap_C : RowHasForm.Statement .swap_C := ⟨.shift .swap (.reg .c), rfl⟩
theorem RowHasForm.swap_D : RowHasForm.Statement .swap_D := ⟨.shift .swap (.reg .d), rfl⟩
theorem RowHasForm.swap_E : RowHasForm.Statement .swap_E := ⟨.shift .swap (.reg .e), rfl⟩
theorem RowHasForm.swap_H : RowHasForm.Statement .swap_H := ⟨.shift .swap (.reg .h), rfl⟩
theorem RowHasForm.swap_L : RowHasForm.Statement .swap_L := ⟨.shift .swap (.reg .l), rfl⟩
theorem RowHasForm.swap_atHL : RowHasForm.Statement .swap_atHL := ⟨.shift .swap .atHL, rfl⟩
theorem RowHasForm.swap_A : RowHasForm.Statement .swap_A := ⟨.shift .swap (.reg .a), rfl⟩
theorem RowHasForm.srl_B : RowHasForm.Statement .srl_B := ⟨.shift .srl (.reg .b), rfl⟩
theorem RowHasForm.srl_C : RowHasForm.Statement .srl_C := ⟨.shift .srl (.reg .c), rfl⟩
theorem RowHasForm.srl_D : RowHasForm.Statement .srl_D := ⟨.shift .srl (.reg .d), rfl⟩
theorem RowHasForm.srl_E : RowHasForm.Statement .srl_E := ⟨.shift .srl (.reg .e), rfl⟩
theorem RowHasForm.srl_H : RowHasForm.Statement .srl_H := ⟨.shift .srl (.reg .h), rfl⟩
theorem RowHasForm.srl_L : RowHasForm.Statement .srl_L := ⟨.shift .srl (.reg .l), rfl⟩
theorem RowHasForm.srl_atHL : RowHasForm.Statement .srl_atHL := ⟨.shift .srl .atHL, rfl⟩
theorem RowHasForm.srl_A : RowHasForm.Statement .srl_A := ⟨.shift .srl (.reg .a), rfl⟩
theorem RowHasForm.bit_0_B : RowHasForm.Statement .bit_0_B := ⟨.bit .o0 (.reg .b), rfl⟩
theorem RowHasForm.bit_0_C : RowHasForm.Statement .bit_0_C := ⟨.bit .o0 (.reg .c), rfl⟩
theorem RowHasForm.bit_0_D : RowHasForm.Statement .bit_0_D := ⟨.bit .o0 (.reg .d), rfl⟩
theorem RowHasForm.bit_0_E : RowHasForm.Statement .bit_0_E := ⟨.bit .o0 (.reg .e), rfl⟩
theorem RowHasForm.bit_0_H : RowHasForm.Statement .bit_0_H := ⟨.bit .o0 (.reg .h), rfl⟩
theorem RowHasForm.bit_0_L : RowHasForm.Statement .bit_0_L := ⟨.bit .o0 (.reg .l), rfl⟩
theorem RowHasForm.bit_0_atHL : RowHasForm.Statement .bit_0_atHL := ⟨.bit .o0 .atHL, rfl⟩
theorem RowHasForm.bit_0_A : RowHasForm.Statement .bit_0_A := ⟨.bit .o0 (.reg .a), rfl⟩
theorem RowHasForm.bit_1_B : RowHasForm.Statement .bit_1_B := ⟨.bit .o1 (.reg .b), rfl⟩
theorem RowHasForm.bit_1_C : RowHasForm.Statement .bit_1_C := ⟨.bit .o1 (.reg .c), rfl⟩
theorem RowHasForm.bit_1_D : RowHasForm.Statement .bit_1_D := ⟨.bit .o1 (.reg .d), rfl⟩
theorem RowHasForm.bit_1_E : RowHasForm.Statement .bit_1_E := ⟨.bit .o1 (.reg .e), rfl⟩
theorem RowHasForm.bit_1_H : RowHasForm.Statement .bit_1_H := ⟨.bit .o1 (.reg .h), rfl⟩
theorem RowHasForm.bit_1_L : RowHasForm.Statement .bit_1_L := ⟨.bit .o1 (.reg .l), rfl⟩
theorem RowHasForm.bit_1_atHL : RowHasForm.Statement .bit_1_atHL := ⟨.bit .o1 .atHL, rfl⟩
theorem RowHasForm.bit_1_A : RowHasForm.Statement .bit_1_A := ⟨.bit .o1 (.reg .a), rfl⟩
theorem RowHasForm.bit_2_B : RowHasForm.Statement .bit_2_B := ⟨.bit .o2 (.reg .b), rfl⟩
theorem RowHasForm.bit_2_C : RowHasForm.Statement .bit_2_C := ⟨.bit .o2 (.reg .c), rfl⟩
theorem RowHasForm.bit_2_D : RowHasForm.Statement .bit_2_D := ⟨.bit .o2 (.reg .d), rfl⟩
theorem RowHasForm.bit_2_E : RowHasForm.Statement .bit_2_E := ⟨.bit .o2 (.reg .e), rfl⟩
theorem RowHasForm.bit_2_H : RowHasForm.Statement .bit_2_H := ⟨.bit .o2 (.reg .h), rfl⟩
theorem RowHasForm.bit_2_L : RowHasForm.Statement .bit_2_L := ⟨.bit .o2 (.reg .l), rfl⟩
theorem RowHasForm.bit_2_atHL : RowHasForm.Statement .bit_2_atHL := ⟨.bit .o2 .atHL, rfl⟩
theorem RowHasForm.bit_2_A : RowHasForm.Statement .bit_2_A := ⟨.bit .o2 (.reg .a), rfl⟩
theorem RowHasForm.bit_3_B : RowHasForm.Statement .bit_3_B := ⟨.bit .o3 (.reg .b), rfl⟩
theorem RowHasForm.bit_3_C : RowHasForm.Statement .bit_3_C := ⟨.bit .o3 (.reg .c), rfl⟩
theorem RowHasForm.bit_3_D : RowHasForm.Statement .bit_3_D := ⟨.bit .o3 (.reg .d), rfl⟩
theorem RowHasForm.bit_3_E : RowHasForm.Statement .bit_3_E := ⟨.bit .o3 (.reg .e), rfl⟩
theorem RowHasForm.bit_3_H : RowHasForm.Statement .bit_3_H := ⟨.bit .o3 (.reg .h), rfl⟩
theorem RowHasForm.bit_3_L : RowHasForm.Statement .bit_3_L := ⟨.bit .o3 (.reg .l), rfl⟩
theorem RowHasForm.bit_3_atHL : RowHasForm.Statement .bit_3_atHL := ⟨.bit .o3 .atHL, rfl⟩
theorem RowHasForm.bit_3_A : RowHasForm.Statement .bit_3_A := ⟨.bit .o3 (.reg .a), rfl⟩
theorem RowHasForm.bit_4_B : RowHasForm.Statement .bit_4_B := ⟨.bit .o4 (.reg .b), rfl⟩
theorem RowHasForm.bit_4_C : RowHasForm.Statement .bit_4_C := ⟨.bit .o4 (.reg .c), rfl⟩
theorem RowHasForm.bit_4_D : RowHasForm.Statement .bit_4_D := ⟨.bit .o4 (.reg .d), rfl⟩
theorem RowHasForm.bit_4_E : RowHasForm.Statement .bit_4_E := ⟨.bit .o4 (.reg .e), rfl⟩
theorem RowHasForm.bit_4_H : RowHasForm.Statement .bit_4_H := ⟨.bit .o4 (.reg .h), rfl⟩
theorem RowHasForm.bit_4_L : RowHasForm.Statement .bit_4_L := ⟨.bit .o4 (.reg .l), rfl⟩
theorem RowHasForm.bit_4_atHL : RowHasForm.Statement .bit_4_atHL := ⟨.bit .o4 .atHL, rfl⟩
theorem RowHasForm.bit_4_A : RowHasForm.Statement .bit_4_A := ⟨.bit .o4 (.reg .a), rfl⟩
theorem RowHasForm.bit_5_B : RowHasForm.Statement .bit_5_B := ⟨.bit .o5 (.reg .b), rfl⟩
theorem RowHasForm.bit_5_C : RowHasForm.Statement .bit_5_C := ⟨.bit .o5 (.reg .c), rfl⟩
theorem RowHasForm.bit_5_D : RowHasForm.Statement .bit_5_D := ⟨.bit .o5 (.reg .d), rfl⟩
theorem RowHasForm.bit_5_E : RowHasForm.Statement .bit_5_E := ⟨.bit .o5 (.reg .e), rfl⟩
theorem RowHasForm.bit_5_H : RowHasForm.Statement .bit_5_H := ⟨.bit .o5 (.reg .h), rfl⟩
theorem RowHasForm.bit_5_L : RowHasForm.Statement .bit_5_L := ⟨.bit .o5 (.reg .l), rfl⟩
theorem RowHasForm.bit_5_atHL : RowHasForm.Statement .bit_5_atHL := ⟨.bit .o5 .atHL, rfl⟩
theorem RowHasForm.bit_5_A : RowHasForm.Statement .bit_5_A := ⟨.bit .o5 (.reg .a), rfl⟩
theorem RowHasForm.bit_6_B : RowHasForm.Statement .bit_6_B := ⟨.bit .o6 (.reg .b), rfl⟩
theorem RowHasForm.bit_6_C : RowHasForm.Statement .bit_6_C := ⟨.bit .o6 (.reg .c), rfl⟩
theorem RowHasForm.bit_6_D : RowHasForm.Statement .bit_6_D := ⟨.bit .o6 (.reg .d), rfl⟩
theorem RowHasForm.bit_6_E : RowHasForm.Statement .bit_6_E := ⟨.bit .o6 (.reg .e), rfl⟩
theorem RowHasForm.bit_6_H : RowHasForm.Statement .bit_6_H := ⟨.bit .o6 (.reg .h), rfl⟩
theorem RowHasForm.bit_6_L : RowHasForm.Statement .bit_6_L := ⟨.bit .o6 (.reg .l), rfl⟩
theorem RowHasForm.bit_6_atHL : RowHasForm.Statement .bit_6_atHL := ⟨.bit .o6 .atHL, rfl⟩
theorem RowHasForm.bit_6_A : RowHasForm.Statement .bit_6_A := ⟨.bit .o6 (.reg .a), rfl⟩
theorem RowHasForm.bit_7_B : RowHasForm.Statement .bit_7_B := ⟨.bit .o7 (.reg .b), rfl⟩
theorem RowHasForm.bit_7_C : RowHasForm.Statement .bit_7_C := ⟨.bit .o7 (.reg .c), rfl⟩
theorem RowHasForm.bit_7_D : RowHasForm.Statement .bit_7_D := ⟨.bit .o7 (.reg .d), rfl⟩
theorem RowHasForm.bit_7_E : RowHasForm.Statement .bit_7_E := ⟨.bit .o7 (.reg .e), rfl⟩
theorem RowHasForm.bit_7_H : RowHasForm.Statement .bit_7_H := ⟨.bit .o7 (.reg .h), rfl⟩
theorem RowHasForm.bit_7_L : RowHasForm.Statement .bit_7_L := ⟨.bit .o7 (.reg .l), rfl⟩
theorem RowHasForm.bit_7_atHL : RowHasForm.Statement .bit_7_atHL := ⟨.bit .o7 .atHL, rfl⟩
theorem RowHasForm.bit_7_A : RowHasForm.Statement .bit_7_A := ⟨.bit .o7 (.reg .a), rfl⟩
theorem RowHasForm.res_0_B : RowHasForm.Statement .res_0_B := ⟨.res .o0 (.reg .b), rfl⟩
theorem RowHasForm.res_0_C : RowHasForm.Statement .res_0_C := ⟨.res .o0 (.reg .c), rfl⟩
theorem RowHasForm.res_0_D : RowHasForm.Statement .res_0_D := ⟨.res .o0 (.reg .d), rfl⟩
theorem RowHasForm.res_0_E : RowHasForm.Statement .res_0_E := ⟨.res .o0 (.reg .e), rfl⟩
theorem RowHasForm.res_0_H : RowHasForm.Statement .res_0_H := ⟨.res .o0 (.reg .h), rfl⟩
theorem RowHasForm.res_0_L : RowHasForm.Statement .res_0_L := ⟨.res .o0 (.reg .l), rfl⟩
theorem RowHasForm.res_0_atHL : RowHasForm.Statement .res_0_atHL := ⟨.res .o0 .atHL, rfl⟩
theorem RowHasForm.res_0_A : RowHasForm.Statement .res_0_A := ⟨.res .o0 (.reg .a), rfl⟩
theorem RowHasForm.res_1_B : RowHasForm.Statement .res_1_B := ⟨.res .o1 (.reg .b), rfl⟩
theorem RowHasForm.res_1_C : RowHasForm.Statement .res_1_C := ⟨.res .o1 (.reg .c), rfl⟩
theorem RowHasForm.res_1_D : RowHasForm.Statement .res_1_D := ⟨.res .o1 (.reg .d), rfl⟩
theorem RowHasForm.res_1_E : RowHasForm.Statement .res_1_E := ⟨.res .o1 (.reg .e), rfl⟩
theorem RowHasForm.res_1_H : RowHasForm.Statement .res_1_H := ⟨.res .o1 (.reg .h), rfl⟩
theorem RowHasForm.res_1_L : RowHasForm.Statement .res_1_L := ⟨.res .o1 (.reg .l), rfl⟩
theorem RowHasForm.res_1_atHL : RowHasForm.Statement .res_1_atHL := ⟨.res .o1 .atHL, rfl⟩
theorem RowHasForm.res_1_A : RowHasForm.Statement .res_1_A := ⟨.res .o1 (.reg .a), rfl⟩
theorem RowHasForm.res_2_B : RowHasForm.Statement .res_2_B := ⟨.res .o2 (.reg .b), rfl⟩
theorem RowHasForm.res_2_C : RowHasForm.Statement .res_2_C := ⟨.res .o2 (.reg .c), rfl⟩
theorem RowHasForm.res_2_D : RowHasForm.Statement .res_2_D := ⟨.res .o2 (.reg .d), rfl⟩
theorem RowHasForm.res_2_E : RowHasForm.Statement .res_2_E := ⟨.res .o2 (.reg .e), rfl⟩
theorem RowHasForm.res_2_H : RowHasForm.Statement .res_2_H := ⟨.res .o2 (.reg .h), rfl⟩
theorem RowHasForm.res_2_L : RowHasForm.Statement .res_2_L := ⟨.res .o2 (.reg .l), rfl⟩
theorem RowHasForm.res_2_atHL : RowHasForm.Statement .res_2_atHL := ⟨.res .o2 .atHL, rfl⟩
theorem RowHasForm.res_2_A : RowHasForm.Statement .res_2_A := ⟨.res .o2 (.reg .a), rfl⟩
theorem RowHasForm.res_3_B : RowHasForm.Statement .res_3_B := ⟨.res .o3 (.reg .b), rfl⟩
theorem RowHasForm.res_3_C : RowHasForm.Statement .res_3_C := ⟨.res .o3 (.reg .c), rfl⟩
theorem RowHasForm.res_3_D : RowHasForm.Statement .res_3_D := ⟨.res .o3 (.reg .d), rfl⟩
theorem RowHasForm.res_3_E : RowHasForm.Statement .res_3_E := ⟨.res .o3 (.reg .e), rfl⟩
theorem RowHasForm.res_3_H : RowHasForm.Statement .res_3_H := ⟨.res .o3 (.reg .h), rfl⟩
theorem RowHasForm.res_3_L : RowHasForm.Statement .res_3_L := ⟨.res .o3 (.reg .l), rfl⟩
theorem RowHasForm.res_3_atHL : RowHasForm.Statement .res_3_atHL := ⟨.res .o3 .atHL, rfl⟩
theorem RowHasForm.res_3_A : RowHasForm.Statement .res_3_A := ⟨.res .o3 (.reg .a), rfl⟩
theorem RowHasForm.res_4_B : RowHasForm.Statement .res_4_B := ⟨.res .o4 (.reg .b), rfl⟩
theorem RowHasForm.res_4_C : RowHasForm.Statement .res_4_C := ⟨.res .o4 (.reg .c), rfl⟩
theorem RowHasForm.res_4_D : RowHasForm.Statement .res_4_D := ⟨.res .o4 (.reg .d), rfl⟩
theorem RowHasForm.res_4_E : RowHasForm.Statement .res_4_E := ⟨.res .o4 (.reg .e), rfl⟩
theorem RowHasForm.res_4_H : RowHasForm.Statement .res_4_H := ⟨.res .o4 (.reg .h), rfl⟩
theorem RowHasForm.res_4_L : RowHasForm.Statement .res_4_L := ⟨.res .o4 (.reg .l), rfl⟩
theorem RowHasForm.res_4_atHL : RowHasForm.Statement .res_4_atHL := ⟨.res .o4 .atHL, rfl⟩
theorem RowHasForm.res_4_A : RowHasForm.Statement .res_4_A := ⟨.res .o4 (.reg .a), rfl⟩
theorem RowHasForm.res_5_B : RowHasForm.Statement .res_5_B := ⟨.res .o5 (.reg .b), rfl⟩
theorem RowHasForm.res_5_C : RowHasForm.Statement .res_5_C := ⟨.res .o5 (.reg .c), rfl⟩
theorem RowHasForm.res_5_D : RowHasForm.Statement .res_5_D := ⟨.res .o5 (.reg .d), rfl⟩
theorem RowHasForm.res_5_E : RowHasForm.Statement .res_5_E := ⟨.res .o5 (.reg .e), rfl⟩
theorem RowHasForm.res_5_H : RowHasForm.Statement .res_5_H := ⟨.res .o5 (.reg .h), rfl⟩
theorem RowHasForm.res_5_L : RowHasForm.Statement .res_5_L := ⟨.res .o5 (.reg .l), rfl⟩
theorem RowHasForm.res_5_atHL : RowHasForm.Statement .res_5_atHL := ⟨.res .o5 .atHL, rfl⟩
theorem RowHasForm.res_5_A : RowHasForm.Statement .res_5_A := ⟨.res .o5 (.reg .a), rfl⟩
theorem RowHasForm.res_6_B : RowHasForm.Statement .res_6_B := ⟨.res .o6 (.reg .b), rfl⟩
theorem RowHasForm.res_6_C : RowHasForm.Statement .res_6_C := ⟨.res .o6 (.reg .c), rfl⟩
theorem RowHasForm.res_6_D : RowHasForm.Statement .res_6_D := ⟨.res .o6 (.reg .d), rfl⟩
theorem RowHasForm.res_6_E : RowHasForm.Statement .res_6_E := ⟨.res .o6 (.reg .e), rfl⟩
theorem RowHasForm.res_6_H : RowHasForm.Statement .res_6_H := ⟨.res .o6 (.reg .h), rfl⟩
theorem RowHasForm.res_6_L : RowHasForm.Statement .res_6_L := ⟨.res .o6 (.reg .l), rfl⟩
theorem RowHasForm.res_6_atHL : RowHasForm.Statement .res_6_atHL := ⟨.res .o6 .atHL, rfl⟩
theorem RowHasForm.res_6_A : RowHasForm.Statement .res_6_A := ⟨.res .o6 (.reg .a), rfl⟩
theorem RowHasForm.res_7_B : RowHasForm.Statement .res_7_B := ⟨.res .o7 (.reg .b), rfl⟩
theorem RowHasForm.res_7_C : RowHasForm.Statement .res_7_C := ⟨.res .o7 (.reg .c), rfl⟩
theorem RowHasForm.res_7_D : RowHasForm.Statement .res_7_D := ⟨.res .o7 (.reg .d), rfl⟩
theorem RowHasForm.res_7_E : RowHasForm.Statement .res_7_E := ⟨.res .o7 (.reg .e), rfl⟩
theorem RowHasForm.res_7_H : RowHasForm.Statement .res_7_H := ⟨.res .o7 (.reg .h), rfl⟩
theorem RowHasForm.res_7_L : RowHasForm.Statement .res_7_L := ⟨.res .o7 (.reg .l), rfl⟩
theorem RowHasForm.res_7_atHL : RowHasForm.Statement .res_7_atHL := ⟨.res .o7 .atHL, rfl⟩
theorem RowHasForm.res_7_A : RowHasForm.Statement .res_7_A := ⟨.res .o7 (.reg .a), rfl⟩
theorem RowHasForm.set_0_B : RowHasForm.Statement .set_0_B := ⟨.set .o0 (.reg .b), rfl⟩
theorem RowHasForm.set_0_C : RowHasForm.Statement .set_0_C := ⟨.set .o0 (.reg .c), rfl⟩
theorem RowHasForm.set_0_D : RowHasForm.Statement .set_0_D := ⟨.set .o0 (.reg .d), rfl⟩
theorem RowHasForm.set_0_E : RowHasForm.Statement .set_0_E := ⟨.set .o0 (.reg .e), rfl⟩
theorem RowHasForm.set_0_H : RowHasForm.Statement .set_0_H := ⟨.set .o0 (.reg .h), rfl⟩
theorem RowHasForm.set_0_L : RowHasForm.Statement .set_0_L := ⟨.set .o0 (.reg .l), rfl⟩
theorem RowHasForm.set_0_atHL : RowHasForm.Statement .set_0_atHL := ⟨.set .o0 .atHL, rfl⟩
theorem RowHasForm.set_0_A : RowHasForm.Statement .set_0_A := ⟨.set .o0 (.reg .a), rfl⟩
theorem RowHasForm.set_1_B : RowHasForm.Statement .set_1_B := ⟨.set .o1 (.reg .b), rfl⟩
theorem RowHasForm.set_1_C : RowHasForm.Statement .set_1_C := ⟨.set .o1 (.reg .c), rfl⟩
theorem RowHasForm.set_1_D : RowHasForm.Statement .set_1_D := ⟨.set .o1 (.reg .d), rfl⟩
theorem RowHasForm.set_1_E : RowHasForm.Statement .set_1_E := ⟨.set .o1 (.reg .e), rfl⟩
theorem RowHasForm.set_1_H : RowHasForm.Statement .set_1_H := ⟨.set .o1 (.reg .h), rfl⟩
theorem RowHasForm.set_1_L : RowHasForm.Statement .set_1_L := ⟨.set .o1 (.reg .l), rfl⟩
theorem RowHasForm.set_1_atHL : RowHasForm.Statement .set_1_atHL := ⟨.set .o1 .atHL, rfl⟩
theorem RowHasForm.set_1_A : RowHasForm.Statement .set_1_A := ⟨.set .o1 (.reg .a), rfl⟩
theorem RowHasForm.set_2_B : RowHasForm.Statement .set_2_B := ⟨.set .o2 (.reg .b), rfl⟩
theorem RowHasForm.set_2_C : RowHasForm.Statement .set_2_C := ⟨.set .o2 (.reg .c), rfl⟩
theorem RowHasForm.set_2_D : RowHasForm.Statement .set_2_D := ⟨.set .o2 (.reg .d), rfl⟩
theorem RowHasForm.set_2_E : RowHasForm.Statement .set_2_E := ⟨.set .o2 (.reg .e), rfl⟩
theorem RowHasForm.set_2_H : RowHasForm.Statement .set_2_H := ⟨.set .o2 (.reg .h), rfl⟩
theorem RowHasForm.set_2_L : RowHasForm.Statement .set_2_L := ⟨.set .o2 (.reg .l), rfl⟩
theorem RowHasForm.set_2_atHL : RowHasForm.Statement .set_2_atHL := ⟨.set .o2 .atHL, rfl⟩
theorem RowHasForm.set_2_A : RowHasForm.Statement .set_2_A := ⟨.set .o2 (.reg .a), rfl⟩
theorem RowHasForm.set_3_B : RowHasForm.Statement .set_3_B := ⟨.set .o3 (.reg .b), rfl⟩
theorem RowHasForm.set_3_C : RowHasForm.Statement .set_3_C := ⟨.set .o3 (.reg .c), rfl⟩
theorem RowHasForm.set_3_D : RowHasForm.Statement .set_3_D := ⟨.set .o3 (.reg .d), rfl⟩
theorem RowHasForm.set_3_E : RowHasForm.Statement .set_3_E := ⟨.set .o3 (.reg .e), rfl⟩
theorem RowHasForm.set_3_H : RowHasForm.Statement .set_3_H := ⟨.set .o3 (.reg .h), rfl⟩
theorem RowHasForm.set_3_L : RowHasForm.Statement .set_3_L := ⟨.set .o3 (.reg .l), rfl⟩
theorem RowHasForm.set_3_atHL : RowHasForm.Statement .set_3_atHL := ⟨.set .o3 .atHL, rfl⟩
theorem RowHasForm.set_3_A : RowHasForm.Statement .set_3_A := ⟨.set .o3 (.reg .a), rfl⟩
theorem RowHasForm.set_4_B : RowHasForm.Statement .set_4_B := ⟨.set .o4 (.reg .b), rfl⟩
theorem RowHasForm.set_4_C : RowHasForm.Statement .set_4_C := ⟨.set .o4 (.reg .c), rfl⟩
theorem RowHasForm.set_4_D : RowHasForm.Statement .set_4_D := ⟨.set .o4 (.reg .d), rfl⟩
theorem RowHasForm.set_4_E : RowHasForm.Statement .set_4_E := ⟨.set .o4 (.reg .e), rfl⟩
theorem RowHasForm.set_4_H : RowHasForm.Statement .set_4_H := ⟨.set .o4 (.reg .h), rfl⟩
theorem RowHasForm.set_4_L : RowHasForm.Statement .set_4_L := ⟨.set .o4 (.reg .l), rfl⟩
theorem RowHasForm.set_4_atHL : RowHasForm.Statement .set_4_atHL := ⟨.set .o4 .atHL, rfl⟩
theorem RowHasForm.set_4_A : RowHasForm.Statement .set_4_A := ⟨.set .o4 (.reg .a), rfl⟩
theorem RowHasForm.set_5_B : RowHasForm.Statement .set_5_B := ⟨.set .o5 (.reg .b), rfl⟩
theorem RowHasForm.set_5_C : RowHasForm.Statement .set_5_C := ⟨.set .o5 (.reg .c), rfl⟩
theorem RowHasForm.set_5_D : RowHasForm.Statement .set_5_D := ⟨.set .o5 (.reg .d), rfl⟩
theorem RowHasForm.set_5_E : RowHasForm.Statement .set_5_E := ⟨.set .o5 (.reg .e), rfl⟩
theorem RowHasForm.set_5_H : RowHasForm.Statement .set_5_H := ⟨.set .o5 (.reg .h), rfl⟩
theorem RowHasForm.set_5_L : RowHasForm.Statement .set_5_L := ⟨.set .o5 (.reg .l), rfl⟩
theorem RowHasForm.set_5_atHL : RowHasForm.Statement .set_5_atHL := ⟨.set .o5 .atHL, rfl⟩
theorem RowHasForm.set_5_A : RowHasForm.Statement .set_5_A := ⟨.set .o5 (.reg .a), rfl⟩
theorem RowHasForm.set_6_B : RowHasForm.Statement .set_6_B := ⟨.set .o6 (.reg .b), rfl⟩
theorem RowHasForm.set_6_C : RowHasForm.Statement .set_6_C := ⟨.set .o6 (.reg .c), rfl⟩
theorem RowHasForm.set_6_D : RowHasForm.Statement .set_6_D := ⟨.set .o6 (.reg .d), rfl⟩
theorem RowHasForm.set_6_E : RowHasForm.Statement .set_6_E := ⟨.set .o6 (.reg .e), rfl⟩
theorem RowHasForm.set_6_H : RowHasForm.Statement .set_6_H := ⟨.set .o6 (.reg .h), rfl⟩
theorem RowHasForm.set_6_L : RowHasForm.Statement .set_6_L := ⟨.set .o6 (.reg .l), rfl⟩
theorem RowHasForm.set_6_atHL : RowHasForm.Statement .set_6_atHL := ⟨.set .o6 .atHL, rfl⟩
theorem RowHasForm.set_6_A : RowHasForm.Statement .set_6_A := ⟨.set .o6 (.reg .a), rfl⟩
theorem RowHasForm.set_7_B : RowHasForm.Statement .set_7_B := ⟨.set .o7 (.reg .b), rfl⟩
theorem RowHasForm.set_7_C : RowHasForm.Statement .set_7_C := ⟨.set .o7 (.reg .c), rfl⟩
theorem RowHasForm.set_7_D : RowHasForm.Statement .set_7_D := ⟨.set .o7 (.reg .d), rfl⟩
theorem RowHasForm.set_7_E : RowHasForm.Statement .set_7_E := ⟨.set .o7 (.reg .e), rfl⟩
theorem RowHasForm.set_7_H : RowHasForm.Statement .set_7_H := ⟨.set .o7 (.reg .h), rfl⟩
theorem RowHasForm.set_7_L : RowHasForm.Statement .set_7_L := ⟨.set .o7 (.reg .l), rfl⟩
theorem RowHasForm.set_7_atHL : RowHasForm.Statement .set_7_atHL := ⟨.set .o7 .atHL, rfl⟩
theorem RowHasForm.set_7_A : RowHasForm.Statement .set_7_A := ⟨.set .o7 (.reg .a), rfl⟩

end Sys2Proof.Laws
end

