-- ==== Sys2Proof/Tests/Slice0.lean ====
section
/-! SUPPORT. The model's own tests. Expected results come from outside the model: the opcode table and the encodings of
spec/30_encoding.md for the decoder, and the vectors of spec/95_test_vectors.md for the steps. The last section shows, for
every statement with hypotheses, concrete data that meet them. -/

namespace Sys2Proof.Tests

open Sys2Proof Sys2Proof.Machine

/-! ## Small machines -/

/-- A memory with the given bytes. -/
def listed (l : List (Nat × Byte)) : Memory := l.foldl (fun m c => m.put c.1 c.2) []

/-- The reset machine on one flat store of `n` bytes. -/
def flat (n : Nat) (l : List (Nat × Byte)) : State := { State.reset with stores := [⟨n, listed l⟩] }

/-- The router of spec/95_test_vectors.md section 3: S1, S2 and a mirror of S2. -/
def mirrored : MapList :=
  .cons (.flat 0) ⟨0, 0x7FFF⟩ ⟨0, 0x7FFF⟩ (.cons (.flat 1) ⟨0, 0x1FFF⟩ ⟨0xC000, 0xDFFF⟩
    (.cons (.flat 1) ⟨0, 0x1DFF⟩ ⟨0xE000, 0xFDFF⟩ .nil))

/-- The reset machine on that router, with the given bytes in S1 and S2. -/
def routed (l1 l2 : List (Nat × Byte)) : State :=
  { State.reset with
    stores := [⟨0x8000, listed l1⟩, ⟨0x2000, listed l2⟩]
    attached := some (.router mirrored) }

/-- An outcome is the value, as a test. -/
def answers {α : Type} [DecidableEq α] (o : Out α) (v : α) : Bool :=
  match o with
  | .next w => decide (w = v)
  | .fault _ => false
  | .refused _ => false

/-- An outcome is the fault, as a test. -/
def faults {α : Type} (o : Out α) (f : Fault) : Bool :=
  match o with
  | .next _ => false
  | .fault g => decide (g = f)
  | .refused _ => false

theorem next_of_answers {α : Type} [DecidableEq α] {o : Out α} {v : α} (h : answers o v = true) : o = .next v := by
  cases o <;> simp_all [answers]

theorem fault_of_faults {α : Type} {o : Out α} {f : Fault} (h : faults o f = true) : o = .fault f := by
  cases o <;> simp_all [faults]

/-! ## WellFormed: each check refuses an ill-formed term -/

theorem test_wf_good_router : (Port.router mirrored).wf 2 = true := by decide
theorem test_wf_reversed_range_refused : AddrRange.wf ⟨0x0010, 0x000F⟩ = false := by decide
theorem test_wf_sizes_differ_refused : AddrRange.sameSize ⟨0x0000, 0x00FF⟩ ⟨0xFE00, 0xFEFE⟩ = false := by decide
theorem test_wf_overlap_refused : MapList.clearOf ⟨0xDFFF, 0xE000⟩ mirrored = false := by decide
theorem test_wf_missing_store_refused : (Port.router mirrored).wf 1 = false := by decide
theorem test_wf_reversed_entry_refused :
    (Port.router (.cons (.flat 0) ⟨0x10, 0x0F⟩ ⟨0x10, 0x0F⟩ .nil)).wf 1 = false := by decide
theorem test_wf_unequal_entry_refused :
    (Port.router (.cons (.flat 0) ⟨0, 0xFF⟩ ⟨0, 0xFE⟩ .nil)).wf 1 = false := by decide
theorem test_wf_overlapping_entries_refused :
    (Port.router (.cons (.flat 0) ⟨0, 1⟩ ⟨0, 1⟩ (.cons (.flat 0) ⟨0, 1⟩ ⟨1, 2⟩ .nil))).wf 1 = false := by decide
theorem test_wf_ill_formed_nested_router_refused :
    (Port.router (.cons (.router (.cons (.flat 3) ⟨0, 0⟩ ⟨0, 0⟩ .nil)) ⟨0, 0⟩ ⟨0, 0⟩ .nil)).wf 1 = false := by decide
theorem test_wf_unsorted_memory_refused : Memory.wf [(2, 1), (1, 1)] = false := by decide
theorem test_wf_repeated_address_refused : Memory.wf [(2, 1), (2, 3)] = false := by decide
theorem test_wf_listed_unlisted_byte_refused : Memory.wf [(2, 0)] = false := by decide
theorem test_wf_store_out_of_bounds_refused : FlatStore.wf ⟨2, [(2, 1)]⟩ = false := by decide
theorem test_wf_empty_store_refused : FlatStore.wf ⟨0, []⟩ = false := by decide
theorem test_wf_low_bits_of_F_refused :
    State.wf { State.reset with f := 0x01, params := ⟨.zero, .two⟩ } = false := by decide

/-! ## Decoding: every row of the opcode table

Each pair is a row's bytes, written from the table's opcode and format with the operand byte A5 or the operand word 1234
(low byte first), and the instruction its mnemonic names. -/

/-- The bytes decode to the instruction and to nothing more. -/
def rowHolds (r : List Byte × Instr) : Bool :=
  match decode .two r.1 with
  | .ok (i, []) => decide (i = r.2)
  | .ok (_, _ :: _) => false
  | .error _ => false

/-- The rows of family system. -/
def rowsSystem : List (List Byte × Instr) :=
   [([0x00], .nop), ([0x10, 0x00], .stop), ([0x76], .halt), ([0xF3], .di), ([0xFB], .ei)]

/-- The rows of family load16. -/
def rowsLoad16 : List (List Byte × Instr) :=
   [([0x01, 0x34, 0x12], .ld_BC_n16 0x1234), ([0x08, 0x34, 0x12], .ld_atA16_SP 0x1234),
    ([0x11, 0x34, 0x12], .ld_DE_n16 0x1234), ([0x21, 0x34, 0x12], .ld_HL_n16 0x1234),
    ([0x31, 0x34, 0x12], .ld_SP_n16 0x1234), ([0xF9], .ld_SP_HL)]

/-- Rows of family load8, part 1. -/
def rowsLoad81 : List (List Byte × Instr) :=
   [([0x02], .ld_atBC_A), ([0x06, 0xA5], .ld_B_n8 0xA5), ([0x0A], .ld_A_atBC), ([0x0E, 0xA5], .ld_C_n8 0xA5),
    ([0x12], .ld_atDE_A), ([0x16, 0xA5], .ld_D_n8 0xA5), ([0x1A], .ld_A_atDE), ([0x1E, 0xA5], .ld_E_n8 0xA5),
    ([0x22], .ld_atHLinc_A), ([0x26, 0xA5], .ld_H_n8 0xA5), ([0x2A], .ld_A_atHLinc), ([0x2E, 0xA5], .ld_L_n8 0xA5),
    ([0x32], .ld_atHLdec_A), ([0x36, 0xA5], .ld_atHL_n8 0xA5), ([0x3A], .ld_A_atHLdec),
    ([0x3E, 0xA5], .ld_A_n8 0xA5), ([0x40], .ld_B_B), ([0x41], .ld_B_C), ([0x42], .ld_B_D), ([0x43], .ld_B_E),
    ([0x44], .ld_B_H), ([0x45], .ld_B_L), ([0x46], .ld_B_atHL), ([0x47], .ld_B_A), ([0x48], .ld_C_B),
    ([0x49], .ld_C_C), ([0x4A], .ld_C_D), ([0x4B], .ld_C_E), ([0x4C], .ld_C_H), ([0x4D], .ld_C_L),
    ([0x4E], .ld_C_atHL), ([0x4F], .ld_C_A)]

/-- Rows of family load8, part 2. -/
def rowsLoad82 : List (List Byte × Instr) :=
   [([0x50], .ld_D_B), ([0x51], .ld_D_C), ([0x52], .ld_D_D), ([0x53], .ld_D_E), ([0x54], .ld_D_H),
    ([0x55], .ld_D_L), ([0x56], .ld_D_atHL), ([0x57], .ld_D_A), ([0x58], .ld_E_B), ([0x59], .ld_E_C),
    ([0x5A], .ld_E_D), ([0x5B], .ld_E_E), ([0x5C], .ld_E_H), ([0x5D], .ld_E_L), ([0x5E], .ld_E_atHL),
    ([0x5F], .ld_E_A), ([0x60], .ld_H_B), ([0x61], .ld_H_C), ([0x62], .ld_H_D), ([0x63], .ld_H_E),
    ([0x64], .ld_H_H), ([0x65], .ld_H_L), ([0x66], .ld_H_atHL), ([0x67], .ld_H_A), ([0x68], .ld_L_B),
    ([0x69], .ld_L_C), ([0x6A], .ld_L_D), ([0x6B], .ld_L_E), ([0x6C], .ld_L_H), ([0x6D], .ld_L_L),
    ([0x6E], .ld_L_atHL), ([0x6F], .ld_L_A)]

/-- Rows of family load8, part 3. -/
def rowsLoad83 : List (List Byte × Instr) :=
   [([0x70], .ld_atHL_B), ([0x71], .ld_atHL_C), ([0x72], .ld_atHL_D), ([0x73], .ld_atHL_E), ([0x74], .ld_atHL_H),
    ([0x75], .ld_atHL_L), ([0x77], .ld_atHL_A), ([0x78], .ld_A_B), ([0x79], .ld_A_C), ([0x7A], .ld_A_D),
    ([0x7B], .ld_A_E), ([0x7C], .ld_A_H), ([0x7D], .ld_A_L), ([0x7E], .ld_A_atHL), ([0x7F], .ld_A_A),
    ([0xE0, 0xA5], .ldh_atA8_A 0xA5), ([0xE2], .ld_atC_A), ([0xEA, 0x34, 0x12], .ld_atA16_A 0x1234),
    ([0xF0, 0xA5], .ldh_A_atA8 0xA5), ([0xF2], .ld_A_atC), ([0xFA, 0x34, 0x12], .ld_A_atA16 0x1234)]

/-- The rows of family load8. -/
def rowsLoad8 : List (List Byte × Instr) :=
   rowsLoad81 ++ rowsLoad82 ++ rowsLoad83

/-- The rows of family alu16. -/
def rowsAlu16 : List (List Byte × Instr) :=
   [([0x03], .inc_BC), ([0x09], .add_HL_BC), ([0x0B], .dec_BC), ([0x13], .inc_DE), ([0x19], .add_HL_DE),
    ([0x1B], .dec_DE), ([0x23], .inc_HL), ([0x29], .add_HL_HL), ([0x2B], .dec_HL), ([0x33], .inc_SP),
    ([0x39], .add_HL_SP), ([0x3B], .dec_SP), ([0xE8, 0xA5], .add_SP_e8 0xA5), ([0xF8, 0xA5], .ld_HL_SPe8 0xA5)]

/-- Rows of family alu8, part 1. -/
def rowsAlu81 : List (List Byte × Instr) :=
   [([0x04], .inc_B), ([0x05], .dec_B), ([0x0C], .inc_C), ([0x0D], .dec_C), ([0x14], .inc_D), ([0x15], .dec_D),
    ([0x1C], .inc_E), ([0x1D], .dec_E), ([0x24], .inc_H), ([0x25], .dec_H), ([0x27], .daa), ([0x2C], .inc_L),
    ([0x2D], .dec_L), ([0x2F], .cpl), ([0x34], .inc_atHL), ([0x35], .dec_atHL), ([0x37], .scf), ([0x3C], .inc_A),
    ([0x3D], .dec_A), ([0x3F], .ccf), ([0x80], .add_A_B), ([0x81], .add_A_C), ([0x82], .add_A_D),
    ([0x83], .add_A_E), ([0x84], .add_A_H), ([0x85], .add_A_L), ([0x86], .add_A_atHL), ([0x87], .add_A_A),
    ([0x88], .adc_A_B), ([0x89], .adc_A_C), ([0x8A], .adc_A_D), ([0x8B], .adc_A_E)]

/-- Rows of family alu8, part 2. -/
def rowsAlu82 : List (List Byte × Instr) :=
   [([0x8C], .adc_A_H), ([0x8D], .adc_A_L), ([0x8E], .adc_A_atHL), ([0x8F], .adc_A_A), ([0x90], .sub_B),
    ([0x91], .sub_C), ([0x92], .sub_D), ([0x93], .sub_E), ([0x94], .sub_H), ([0x95], .sub_L), ([0x96], .sub_atHL),
    ([0x97], .sub_A), ([0x98], .sbc_A_B), ([0x99], .sbc_A_C), ([0x9A], .sbc_A_D), ([0x9B], .sbc_A_E),
    ([0x9C], .sbc_A_H), ([0x9D], .sbc_A_L), ([0x9E], .sbc_A_atHL), ([0x9F], .sbc_A_A), ([0xA0], .and_B),
    ([0xA1], .and_C), ([0xA2], .and_D), ([0xA3], .and_E), ([0xA4], .and_H), ([0xA5], .and_L), ([0xA6], .and_atHL),
    ([0xA7], .and_A), ([0xA8], .xor_B), ([0xA9], .xor_C), ([0xAA], .xor_D), ([0xAB], .xor_E)]

/-- Rows of family alu8, part 3. -/
def rowsAlu83 : List (List Byte × Instr) :=
   [([0xAC], .xor_H), ([0xAD], .xor_L), ([0xAE], .xor_atHL), ([0xAF], .xor_A), ([0xB0], .or_B), ([0xB1], .or_C),
    ([0xB2], .or_D), ([0xB3], .or_E), ([0xB4], .or_H), ([0xB5], .or_L), ([0xB6], .or_atHL), ([0xB7], .or_A),
    ([0xB8], .cp_B), ([0xB9], .cp_C), ([0xBA], .cp_D), ([0xBB], .cp_E), ([0xBC], .cp_H), ([0xBD], .cp_L),
    ([0xBE], .cp_atHL), ([0xBF], .cp_A), ([0xC6, 0xA5], .add_A_n8 0xA5), ([0xCE, 0xA5], .adc_A_n8 0xA5),
    ([0xD6, 0xA5], .sub_n8 0xA5), ([0xDE, 0xA5], .sbc_A_n8 0xA5), ([0xE6, 0xA5], .and_n8 0xA5),
    ([0xEE, 0xA5], .xor_n8 0xA5), ([0xF6, 0xA5], .or_n8 0xA5), ([0xFE, 0xA5], .cp_n8 0xA5)]

/-- The rows of family alu8. -/
def rowsAlu8 : List (List Byte × Instr) :=
   rowsAlu81 ++ rowsAlu82 ++ rowsAlu83

/-- The rows of family rotate. -/
def rowsRotate : List (List Byte × Instr) :=
   [([0x07], .rlca), ([0x0F], .rrca), ([0x17], .rla), ([0x1F], .rra)]

/-- The rows of family control. -/
def rowsControl : List (List Byte × Instr) :=
   [([0x18, 0xA5], .jr_e8 0xA5), ([0x20, 0xA5], .jr_NZ_e8 0xA5), ([0x28, 0xA5], .jr_Z_e8 0xA5),
    ([0x30, 0xA5], .jr_NC_e8 0xA5), ([0x38, 0xA5], .jr_C_e8 0xA5), ([0xC0], .ret_NZ),
    ([0xC2, 0x34, 0x12], .jp_NZ_a16 0x1234), ([0xC3, 0x34, 0x12], .jp_a16 0x1234),
    ([0xC4, 0x34, 0x12], .call_NZ_a16 0x1234), ([0xC7], .rst_00), ([0xC8], .ret_Z), ([0xC9], .ret),
    ([0xCA, 0x34, 0x12], .jp_Z_a16 0x1234), ([0xCC, 0x34, 0x12], .call_Z_a16 0x1234),
    ([0xCD, 0x34, 0x12], .call_a16 0x1234), ([0xCF], .rst_08), ([0xD0], .ret_NC),
    ([0xD2, 0x34, 0x12], .jp_NC_a16 0x1234), ([0xD4, 0x34, 0x12], .call_NC_a16 0x1234), ([0xD7], .rst_10),
    ([0xD8], .ret_C), ([0xD9], .reti), ([0xDA, 0x34, 0x12], .jp_C_a16 0x1234),
    ([0xDC, 0x34, 0x12], .call_C_a16 0x1234), ([0xDF], .rst_18), ([0xE7], .rst_20), ([0xE9], .jp_HL),
    ([0xEF], .rst_28), ([0xF7], .rst_30), ([0xFF], .rst_38)]

/-- The rows of family stack. -/
def rowsStack : List (List Byte × Instr) :=
   [([0xC1], .pop_BC), ([0xC5], .push_BC), ([0xD1], .pop_DE), ([0xD5], .push_DE), ([0xE1], .pop_HL),
    ([0xE5], .push_HL), ([0xF1], .pop_AF), ([0xF5], .push_AF)]

/-- The rows of family illegal. -/
def rowsIllegal : List (List Byte × Instr) :=
   [([0xD3], .unused_D3), ([0xDB], .unused_DB), ([0xDD], .unused_DD), ([0xE3], .unused_E3), ([0xE4], .unused_E4),
    ([0xEB], .unused_EB), ([0xEC], .unused_EC), ([0xED], .unused_ED), ([0xF4], .unused_F4), ([0xFC], .unused_FC),
    ([0xFD], .unused_FD)]

/-- Rows of family cb_shift, part 1. -/
def rowsCbShift1 : List (List Byte × Instr) :=
   [([0xCB, 0x00], .rlc_B), ([0xCB, 0x01], .rlc_C), ([0xCB, 0x02], .rlc_D), ([0xCB, 0x03], .rlc_E),
    ([0xCB, 0x04], .rlc_H), ([0xCB, 0x05], .rlc_L), ([0xCB, 0x06], .rlc_atHL), ([0xCB, 0x07], .rlc_A),
    ([0xCB, 0x08], .rrc_B), ([0xCB, 0x09], .rrc_C), ([0xCB, 0x0A], .rrc_D), ([0xCB, 0x0B], .rrc_E),
    ([0xCB, 0x0C], .rrc_H), ([0xCB, 0x0D], .rrc_L), ([0xCB, 0x0E], .rrc_atHL), ([0xCB, 0x0F], .rrc_A),
    ([0xCB, 0x10], .rl_B), ([0xCB, 0x11], .rl_C), ([0xCB, 0x12], .rl_D), ([0xCB, 0x13], .rl_E),
    ([0xCB, 0x14], .rl_H), ([0xCB, 0x15], .rl_L), ([0xCB, 0x16], .rl_atHL), ([0xCB, 0x17], .rl_A),
    ([0xCB, 0x18], .rr_B), ([0xCB, 0x19], .rr_C), ([0xCB, 0x1A], .rr_D), ([0xCB, 0x1B], .rr_E),
    ([0xCB, 0x1C], .rr_H), ([0xCB, 0x1D], .rr_L), ([0xCB, 0x1E], .rr_atHL), ([0xCB, 0x1F], .rr_A)]

/-- Rows of family cb_shift, part 2. -/
def rowsCbShift2 : List (List Byte × Instr) :=
   [([0xCB, 0x20], .sla_B), ([0xCB, 0x21], .sla_C), ([0xCB, 0x22], .sla_D), ([0xCB, 0x23], .sla_E),
    ([0xCB, 0x24], .sla_H), ([0xCB, 0x25], .sla_L), ([0xCB, 0x26], .sla_atHL), ([0xCB, 0x27], .sla_A),
    ([0xCB, 0x28], .sra_B), ([0xCB, 0x29], .sra_C), ([0xCB, 0x2A], .sra_D), ([0xCB, 0x2B], .sra_E),
    ([0xCB, 0x2C], .sra_H), ([0xCB, 0x2D], .sra_L), ([0xCB, 0x2E], .sra_atHL), ([0xCB, 0x2F], .sra_A),
    ([0xCB, 0x30], .swap_B), ([0xCB, 0x31], .swap_C), ([0xCB, 0x32], .swap_D), ([0xCB, 0x33], .swap_E),
    ([0xCB, 0x34], .swap_H), ([0xCB, 0x35], .swap_L), ([0xCB, 0x36], .swap_atHL), ([0xCB, 0x37], .swap_A),
    ([0xCB, 0x38], .srl_B), ([0xCB, 0x39], .srl_C), ([0xCB, 0x3A], .srl_D), ([0xCB, 0x3B], .srl_E),
    ([0xCB, 0x3C], .srl_H), ([0xCB, 0x3D], .srl_L), ([0xCB, 0x3E], .srl_atHL), ([0xCB, 0x3F], .srl_A)]

/-- The rows of family cb_shift. -/
def rowsCbShift : List (List Byte × Instr) :=
   rowsCbShift1 ++ rowsCbShift2

/-- Rows of family cb_bit, part 1. -/
def rowsCbBit1 : List (List Byte × Instr) :=
   [([0xCB, 0x40], .bit_0_B), ([0xCB, 0x41], .bit_0_C), ([0xCB, 0x42], .bit_0_D), ([0xCB, 0x43], .bit_0_E),
    ([0xCB, 0x44], .bit_0_H), ([0xCB, 0x45], .bit_0_L), ([0xCB, 0x46], .bit_0_atHL), ([0xCB, 0x47], .bit_0_A),
    ([0xCB, 0x48], .bit_1_B), ([0xCB, 0x49], .bit_1_C), ([0xCB, 0x4A], .bit_1_D), ([0xCB, 0x4B], .bit_1_E),
    ([0xCB, 0x4C], .bit_1_H), ([0xCB, 0x4D], .bit_1_L), ([0xCB, 0x4E], .bit_1_atHL), ([0xCB, 0x4F], .bit_1_A),
    ([0xCB, 0x50], .bit_2_B), ([0xCB, 0x51], .bit_2_C), ([0xCB, 0x52], .bit_2_D), ([0xCB, 0x53], .bit_2_E),
    ([0xCB, 0x54], .bit_2_H), ([0xCB, 0x55], .bit_2_L), ([0xCB, 0x56], .bit_2_atHL), ([0xCB, 0x57], .bit_2_A),
    ([0xCB, 0x58], .bit_3_B), ([0xCB, 0x59], .bit_3_C), ([0xCB, 0x5A], .bit_3_D), ([0xCB, 0x5B], .bit_3_E),
    ([0xCB, 0x5C], .bit_3_H), ([0xCB, 0x5D], .bit_3_L), ([0xCB, 0x5E], .bit_3_atHL), ([0xCB, 0x5F], .bit_3_A)]

/-- Rows of family cb_bit, part 2. -/
def rowsCbBit2 : List (List Byte × Instr) :=
   [([0xCB, 0x60], .bit_4_B), ([0xCB, 0x61], .bit_4_C), ([0xCB, 0x62], .bit_4_D), ([0xCB, 0x63], .bit_4_E),
    ([0xCB, 0x64], .bit_4_H), ([0xCB, 0x65], .bit_4_L), ([0xCB, 0x66], .bit_4_atHL), ([0xCB, 0x67], .bit_4_A),
    ([0xCB, 0x68], .bit_5_B), ([0xCB, 0x69], .bit_5_C), ([0xCB, 0x6A], .bit_5_D), ([0xCB, 0x6B], .bit_5_E),
    ([0xCB, 0x6C], .bit_5_H), ([0xCB, 0x6D], .bit_5_L), ([0xCB, 0x6E], .bit_5_atHL), ([0xCB, 0x6F], .bit_5_A),
    ([0xCB, 0x70], .bit_6_B), ([0xCB, 0x71], .bit_6_C), ([0xCB, 0x72], .bit_6_D), ([0xCB, 0x73], .bit_6_E),
    ([0xCB, 0x74], .bit_6_H), ([0xCB, 0x75], .bit_6_L), ([0xCB, 0x76], .bit_6_atHL), ([0xCB, 0x77], .bit_6_A),
    ([0xCB, 0x78], .bit_7_B), ([0xCB, 0x79], .bit_7_C), ([0xCB, 0x7A], .bit_7_D), ([0xCB, 0x7B], .bit_7_E),
    ([0xCB, 0x7C], .bit_7_H), ([0xCB, 0x7D], .bit_7_L), ([0xCB, 0x7E], .bit_7_atHL), ([0xCB, 0x7F], .bit_7_A)]

/-- Rows of family cb_bit, part 3. -/
def rowsCbBit3 : List (List Byte × Instr) :=
   [([0xCB, 0x80], .res_0_B), ([0xCB, 0x81], .res_0_C), ([0xCB, 0x82], .res_0_D), ([0xCB, 0x83], .res_0_E),
    ([0xCB, 0x84], .res_0_H), ([0xCB, 0x85], .res_0_L), ([0xCB, 0x86], .res_0_atHL), ([0xCB, 0x87], .res_0_A),
    ([0xCB, 0x88], .res_1_B), ([0xCB, 0x89], .res_1_C), ([0xCB, 0x8A], .res_1_D), ([0xCB, 0x8B], .res_1_E),
    ([0xCB, 0x8C], .res_1_H), ([0xCB, 0x8D], .res_1_L), ([0xCB, 0x8E], .res_1_atHL), ([0xCB, 0x8F], .res_1_A),
    ([0xCB, 0x90], .res_2_B), ([0xCB, 0x91], .res_2_C), ([0xCB, 0x92], .res_2_D), ([0xCB, 0x93], .res_2_E),
    ([0xCB, 0x94], .res_2_H), ([0xCB, 0x95], .res_2_L), ([0xCB, 0x96], .res_2_atHL), ([0xCB, 0x97], .res_2_A),
    ([0xCB, 0x98], .res_3_B), ([0xCB, 0x99], .res_3_C), ([0xCB, 0x9A], .res_3_D), ([0xCB, 0x9B], .res_3_E),
    ([0xCB, 0x9C], .res_3_H), ([0xCB, 0x9D], .res_3_L), ([0xCB, 0x9E], .res_3_atHL), ([0xCB, 0x9F], .res_3_A)]

/-- Rows of family cb_bit, part 4. -/
def rowsCbBit4 : List (List Byte × Instr) :=
   [([0xCB, 0xA0], .res_4_B), ([0xCB, 0xA1], .res_4_C), ([0xCB, 0xA2], .res_4_D), ([0xCB, 0xA3], .res_4_E),
    ([0xCB, 0xA4], .res_4_H), ([0xCB, 0xA5], .res_4_L), ([0xCB, 0xA6], .res_4_atHL), ([0xCB, 0xA7], .res_4_A),
    ([0xCB, 0xA8], .res_5_B), ([0xCB, 0xA9], .res_5_C), ([0xCB, 0xAA], .res_5_D), ([0xCB, 0xAB], .res_5_E),
    ([0xCB, 0xAC], .res_5_H), ([0xCB, 0xAD], .res_5_L), ([0xCB, 0xAE], .res_5_atHL), ([0xCB, 0xAF], .res_5_A),
    ([0xCB, 0xB0], .res_6_B), ([0xCB, 0xB1], .res_6_C), ([0xCB, 0xB2], .res_6_D), ([0xCB, 0xB3], .res_6_E),
    ([0xCB, 0xB4], .res_6_H), ([0xCB, 0xB5], .res_6_L), ([0xCB, 0xB6], .res_6_atHL), ([0xCB, 0xB7], .res_6_A),
    ([0xCB, 0xB8], .res_7_B), ([0xCB, 0xB9], .res_7_C), ([0xCB, 0xBA], .res_7_D), ([0xCB, 0xBB], .res_7_E),
    ([0xCB, 0xBC], .res_7_H), ([0xCB, 0xBD], .res_7_L), ([0xCB, 0xBE], .res_7_atHL), ([0xCB, 0xBF], .res_7_A)]

/-- Rows of family cb_bit, part 5. -/
def rowsCbBit5 : List (List Byte × Instr) :=
   [([0xCB, 0xC0], .set_0_B), ([0xCB, 0xC1], .set_0_C), ([0xCB, 0xC2], .set_0_D), ([0xCB, 0xC3], .set_0_E),
    ([0xCB, 0xC4], .set_0_H), ([0xCB, 0xC5], .set_0_L), ([0xCB, 0xC6], .set_0_atHL), ([0xCB, 0xC7], .set_0_A),
    ([0xCB, 0xC8], .set_1_B), ([0xCB, 0xC9], .set_1_C), ([0xCB, 0xCA], .set_1_D), ([0xCB, 0xCB], .set_1_E),
    ([0xCB, 0xCC], .set_1_H), ([0xCB, 0xCD], .set_1_L), ([0xCB, 0xCE], .set_1_atHL), ([0xCB, 0xCF], .set_1_A),
    ([0xCB, 0xD0], .set_2_B), ([0xCB, 0xD1], .set_2_C), ([0xCB, 0xD2], .set_2_D), ([0xCB, 0xD3], .set_2_E),
    ([0xCB, 0xD4], .set_2_H), ([0xCB, 0xD5], .set_2_L), ([0xCB, 0xD6], .set_2_atHL), ([0xCB, 0xD7], .set_2_A),
    ([0xCB, 0xD8], .set_3_B), ([0xCB, 0xD9], .set_3_C), ([0xCB, 0xDA], .set_3_D), ([0xCB, 0xDB], .set_3_E),
    ([0xCB, 0xDC], .set_3_H), ([0xCB, 0xDD], .set_3_L), ([0xCB, 0xDE], .set_3_atHL), ([0xCB, 0xDF], .set_3_A)]

/-- Rows of family cb_bit, part 6. -/
def rowsCbBit6 : List (List Byte × Instr) :=
   [([0xCB, 0xE0], .set_4_B), ([0xCB, 0xE1], .set_4_C), ([0xCB, 0xE2], .set_4_D), ([0xCB, 0xE3], .set_4_E),
    ([0xCB, 0xE4], .set_4_H), ([0xCB, 0xE5], .set_4_L), ([0xCB, 0xE6], .set_4_atHL), ([0xCB, 0xE7], .set_4_A),
    ([0xCB, 0xE8], .set_5_B), ([0xCB, 0xE9], .set_5_C), ([0xCB, 0xEA], .set_5_D), ([0xCB, 0xEB], .set_5_E),
    ([0xCB, 0xEC], .set_5_H), ([0xCB, 0xED], .set_5_L), ([0xCB, 0xEE], .set_5_atHL), ([0xCB, 0xEF], .set_5_A),
    ([0xCB, 0xF0], .set_6_B), ([0xCB, 0xF1], .set_6_C), ([0xCB, 0xF2], .set_6_D), ([0xCB, 0xF3], .set_6_E),
    ([0xCB, 0xF4], .set_6_H), ([0xCB, 0xF5], .set_6_L), ([0xCB, 0xF6], .set_6_atHL), ([0xCB, 0xF7], .set_6_A),
    ([0xCB, 0xF8], .set_7_B), ([0xCB, 0xF9], .set_7_C), ([0xCB, 0xFA], .set_7_D), ([0xCB, 0xFB], .set_7_E),
    ([0xCB, 0xFC], .set_7_H), ([0xCB, 0xFD], .set_7_L), ([0xCB, 0xFE], .set_7_atHL), ([0xCB, 0xFF], .set_7_A)]

/-- The rows of family cb_bit. -/
def rowsCbBit : List (List Byte × Instr) :=
   rowsCbBit1 ++ rowsCbBit2 ++ rowsCbBit3 ++ rowsCbBit4 ++ rowsCbBit5 ++ rowsCbBit6

theorem test_decode_system : rowsSystem.all rowHolds = true := by decide +kernel
theorem test_decode_load16 : rowsLoad16.all rowHolds = true := by decide +kernel
theorem test_decode_load8 : rowsLoad8.all rowHolds = true := by decide +kernel
theorem test_decode_alu16 : rowsAlu16.all rowHolds = true := by decide +kernel
theorem test_decode_alu8 : rowsAlu8.all rowHolds = true := by decide +kernel
theorem test_decode_rotate : rowsRotate.all rowHolds = true := by decide +kernel
theorem test_decode_control : rowsControl.all rowHolds = true := by decide +kernel
theorem test_decode_stack : rowsStack.all rowHolds = true := by decide +kernel
theorem test_decode_illegal : rowsIllegal.all rowHolds = true := by decide +kernel
theorem test_decode_cb_shift : rowsCbShift.all rowHolds = true := by decide +kernel
theorem test_decode_cb_bit : rowsCbBit.all rowHolds = true := by decide +kernel

theorem test_every_row_stands_once :
    [rowsSystem.length, rowsLoad16.length, rowsLoad8.length, rowsAlu16.length,
      rowsAlu8.length, rowsRotate.length, rowsControl.length, rowsStack.length,
      rowsIllegal.length, rowsCbShift.length, rowsCbBit.length].sum = 511 := by decide +kernel

theorem test_decode_stop_one : decode .one [0x10, 0x3C] = .ok (.stop, [0x3C]) := by rfl
theorem test_decode_stop_two : decode .two [0x10, 0x3C] = .ok (.stop, []) := by rfl
theorem test_decode_truncated : decode .two [0xCD, 0xAA] = .error .truncated := by rfl
theorem test_table_word_cb : decodeTableWord 16 0xCB7C = some .bit_7_H := by decide
theorem test_table_word_main : decodeTableWord 8 0xCD = some (.call_a16 0) := by decide

/-! ## The vectors of spec/95_test_vectors.md section 2 -/

/-- A change of the vectors' default state. -/
inductive Edit where
  | a (v : Byte) | f (v : Byte) | b (v : Byte) | c (v : Byte) | d (v : Byte) | e (v : Byte) | h (v : Byte) | l (v : Byte)
  | sp (v : Word) | pc (v : Word) | ime (v : Bool) | halted (v : Bool) | stopped (v : Bool)
  | mem (addr : Nat) (v : Byte) | size (n : Nat) | fLow (p : FLowPolicy) | stopLen (p : StopLen)

/-- A machine with one change. -/
def Edit.apply (s : State) : Edit → State
  | .a v => { s with a := v }
  | .f v => { s with f := v }
  | .b v => { s with b := v }
  | .c v => { s with c := v }
  | .d v => { s with d := v }
  | .e v => { s with e := v }
  | .h v => { s with h := v }
  | .l v => { s with l := v }
  | .sp v => { s with sp := v }
  | .pc v => { s with pc := v }
  | .ime v => { s with ime := v }
  | .halted v => { s with halted := v }
  | .stopped v => { s with stopped := v }
  | .mem addr v => { s with stores := s.stores.map fun st => { st with cells := st.cells.put addr v } }
  | .size n => { s with stores := s.stores.map fun st => { st with size := n } }
  | .fLow p => { s with params := { s.params with fLow := p } }
  | .stopLen p => { s with params := { s.params with stopLen := p } }

/-- The result of a vector: the changes from the start state, or a fault. -/
inductive Want where
  | good (es : List Edit)
  | bad (f : Fault)

/-- A vector: the code bytes at PC, the changes from the default start state, and the result. -/
structure Vector1 where
  code : List Byte
  start : List Edit
  want : Want

/-- The step from the start state is the result, every field and every byte of memory. -/
def Vector1.holds (v : Vector1) : Bool :=
  let s0 := v.start.foldl Edit.apply { State.reset with pc := 0x0100 }
  let s := (v.code.foldl (fun p b => (p.1 + 1, Edit.apply p.2 (.mem (p.1 % 65536) b))) (s0.pc.toNat, s0)).2
  match step s, v.want with
  | .next t, .good es => decide (t = es.foldl Edit.apply s)
  | .fault f, .bad g => decide (f = g)
  | .next _, .bad _ => false
  | .fault _, .good _ => false
  | .refused _, _ => false

/-- Vectors V-A1 to V-A20. -/
def vectorsAlu81 : List Vector1 :=
  [⟨[0x80], [.a 0x3A, .b 0xC6], .good [.a 0x00, .pc 0x0101, .f 0xB0]⟩,
   ⟨[0x80], [.a 0x0F, .b 0x01], .good [.a 0x10, .pc 0x0101, .f 0x20]⟩,
   ⟨[0x80], [.a 0xF0, .b 0x20, .f 0xF0], .good [.a 0x10, .pc 0x0101, .f 0x10]⟩,
   ⟨[0x87], [.a 0x80], .good [.a 0x00, .pc 0x0101, .f 0x90]⟩,
   ⟨[0x86], [.a 0x3C, .h 0xC0, .l 0x00, .mem 0xC000 0x12], .good [.a 0x4E, .pc 0x0101, .f 0x00]⟩,
   ⟨[0xC6, 0x01], [.a 0xFF], .good [.a 0x00, .pc 0x0102, .f 0xB0]⟩,
   ⟨[0x8B], [.a 0x00, .e 0x0F, .f 0x10], .good [.a 0x10, .pc 0x0101, .f 0x20]⟩,
   ⟨[0x8B], [.a 0x01, .e 0xFF, .f 0x10], .good [.pc 0x0101, .f 0x30]⟩,
   ⟨[0x8F], [.a 0x80, .f 0x10], .good [.a 0x01, .pc 0x0101, .f 0x10]⟩,
   ⟨[0x8E], [.a 0xE1, .h 0xC0, .l 0x00, .f 0x10, .mem 0xC000 0x1E], .good [.a 0x00, .pc 0x0101, .f 0xB0]⟩,
   ⟨[0xCE, 0xFF], [.a 0x00, .f 0x10], .good [.pc 0x0102, .f 0xB0]⟩,
   ⟨[0x90], [.a 0x3E, .b 0x3E], .good [.a 0x00, .pc 0x0101, .f 0xC0]⟩,
   ⟨[0x90], [.a 0x10, .b 0x01], .good [.a 0x0F, .pc 0x0101, .f 0x60]⟩,
   ⟨[0x90], [.a 0x00, .b 0x01], .good [.a 0xFF, .pc 0x0101, .f 0x70]⟩,
   ⟨[0x97], [.a 0x5A, .f 0x30], .good [.a 0x00, .pc 0x0101, .f 0xC0]⟩,
   ⟨[0x96], [.a 0x3E, .h 0xC0, .l 0x00, .mem 0xC000 0x40], .good [.a 0xFE, .pc 0x0101, .f 0x50]⟩,
   ⟨[0xD6, 0x0F], [.a 0x3E], .good [.a 0x2F, .pc 0x0102, .f 0x60]⟩,
   ⟨[0x9C], [.a 0x10, .h 0x0F, .f 0x10], .good [.a 0x00, .pc 0x0101, .f 0xE0]⟩,
   ⟨[0x98], [.a 0x00, .b 0xFF, .f 0x10], .good [.pc 0x0101, .f 0xF0]⟩,
   ⟨[0x9F], [.a 0x42, .f 0x10], .good [.a 0xFF, .pc 0x0101, .f 0x70]⟩]

/-- Vectors V-A21 to V-A40. -/
def vectorsAlu82 : List Vector1 :=
  [⟨[0x9E], [.a 0x3B, .h 0xC0, .l 0x00, .f 0x10, .mem 0xC000 0x4F], .good [.a 0xEB, .pc 0x0101, .f 0x70]⟩,
   ⟨[0xDE, 0x3A], [.a 0x3B, .f 0x10], .good [.a 0x00, .pc 0x0102, .f 0xC0]⟩,
   ⟨[0xA0], [.a 0x5A, .b 0x3F], .good [.a 0x1A, .pc 0x0101, .f 0x20]⟩,
   ⟨[0xA0], [.a 0x5A, .b 0xA5, .f 0x10], .good [.a 0x00, .pc 0x0101, .f 0xA0]⟩,
   ⟨[0xA6], [.a 0xFF, .h 0xC0, .l 0x00, .mem 0xC000 0x0F], .good [.a 0x0F, .pc 0x0101, .f 0x20]⟩,
   ⟨[0xE6, 0x00], [.a 0xFF], .good [.a 0x00, .pc 0x0102, .f 0xA0]⟩,
   ⟨[0xAF], [.a 0x77, .f 0x70], .good [.a 0x00, .pc 0x0101, .f 0x80]⟩,
   ⟨[0xAE], [.a 0xFF, .h 0xC0, .l 0x00, .mem 0xC000 0x8A], .good [.a 0x75, .pc 0x0101, .f 0x00]⟩,
   ⟨[0xEE, 0x0F], [.a 0xF0], .good [.a 0xFF, .pc 0x0102, .f 0x00]⟩,
   ⟨[0xB1], [.a 0x00, .c 0x00, .f 0x70], .good [.pc 0x0101, .f 0x80]⟩,
   ⟨[0xB6], [.a 0x5A, .h 0xC0, .l 0x00, .mem 0xC000 0x0F], .good [.a 0x5F, .pc 0x0101, .f 0x00]⟩,
   ⟨[0xF6, 0x03], [.a 0x5A], .good [.a 0x5B, .pc 0x0102, .f 0x00]⟩,
   ⟨[0xB8], [.a 0x3C, .b 0x2F], .good [.pc 0x0101, .f 0x60]⟩,
   ⟨[0xB8], [.a 0x3C, .b 0x3C], .good [.pc 0x0101, .f 0xC0]⟩,
   ⟨[0xBE], [.a 0x3C, .h 0xC0, .l 0x00, .mem 0xC000 0x40], .good [.pc 0x0101, .f 0x50]⟩,
   ⟨[0xFE, 0x3D], [.a 0x3C], .good [.pc 0x0102, .f 0x70]⟩,
   ⟨[0x04], [.b 0xFF], .good [.b 0x00, .pc 0x0101, .f 0xA0]⟩,
   ⟨[0x04], [.b 0x0F, .f 0x10], .good [.b 0x10, .pc 0x0101, .f 0x30]⟩,
   ⟨[0x3C], [.a 0x41, .f 0x70], .good [.a 0x42, .pc 0x0101, .f 0x10]⟩,
   ⟨[0x34], [.h 0xC0, .l 0x00, .mem 0xC000 0x7F], .good [.pc 0x0101, .mem 0xC000 0x80, .f 0x20]⟩]

/-- Vectors V-A41 to V-A56. -/
def vectorsAlu83 : List Vector1 :=
  [⟨[0x05], [.b 0x00], .good [.b 0xFF, .pc 0x0101, .f 0x60]⟩,
   ⟨[0x05], [.b 0x00, .f 0x10], .good [.b 0xFF, .pc 0x0101, .f 0x70]⟩,
   ⟨[0x0D], [.c 0x01], .good [.c 0x00, .pc 0x0101, .f 0xC0]⟩,
   ⟨[0x2D], [.l 0x10], .good [.l 0x0F, .pc 0x0101, .f 0x60]⟩,
   ⟨[0x35], [.h 0xC0, .l 0x00, .mem 0xC000 0x01], .good [.pc 0x0101, .mem 0xC000 0x00, .f 0xC0]⟩,
   ⟨[0x27], [.a 0x7D], .good [.a 0x83, .pc 0x0101, .f 0x00]⟩,
   ⟨[0x27], [.a 0x9A], .good [.a 0x00, .pc 0x0101, .f 0x90]⟩,
   ⟨[0x27], [.a 0x00, .f 0x30], .good [.a 0x66, .pc 0x0101, .f 0x10]⟩,
   ⟨[0x27], [.a 0x0F, .f 0x60], .good [.a 0x09, .pc 0x0101, .f 0x40]⟩,
   ⟨[0x27], [.a 0xF9, .f 0x50], .good [.a 0x99, .pc 0x0101, .f 0x50]⟩,
   ⟨[0x27], [.a 0xA0], .good [.a 0x00, .pc 0x0101, .f 0x90]⟩,
   ⟨[0x2F], [.a 0x35], .good [.a 0xCA, .pc 0x0101, .f 0x60]⟩,
   ⟨[0x2F], [.a 0xFF, .f 0x90], .good [.a 0x00, .pc 0x0101, .f 0xF0]⟩,
   ⟨[0x37], [.f 0xE0], .good [.pc 0x0101, .f 0x90]⟩,
   ⟨[0x3F], [.f 0xF0], .good [.pc 0x0101, .f 0x80]⟩,
   ⟨[0x3F], [.f 0x80], .good [.pc 0x0101, .f 0x90]⟩]

theorem test_vectors_alu8 : (vectorsAlu81 ++ vectorsAlu82 ++ vectorsAlu83).all Vector1.holds = true := by decide +kernel

/-- Vectors V-W1 to V-W15. -/
def vectorsAlu16 : List Vector1 :=
  [⟨[0x09], [.h 0x0F, .l 0xFF, .b 0x00, .c 0x01], .good [.h 0x10, .l 0x00, .pc 0x0101, .f 0x20]⟩,
   ⟨[0x19], [.h 0x8A, .l 0x23, .d 0x06, .e 0x05, .f 0x80], .good [.h 0x90, .l 0x28, .pc 0x0101, .f 0xA0]⟩,
   ⟨[0x29], [.h 0xFF, .l 0xFF], .good [.l 0xFE, .pc 0x0101, .f 0x30]⟩,
   ⟨[0x39], [.h 0x80, .l 0x00, .sp 0x8000], .good [.h 0x00, .pc 0x0101, .f 0x10]⟩,
   ⟨[0x03], [.b 0xFF, .c 0xFF, .f 0x00], .good [.b 0x00, .c 0x00, .pc 0x0101, .f 0x00]⟩,
   ⟨[0x33], [.sp 0x1234], .good [.sp 0x1235, .pc 0x0101, .f 0x00]⟩,
   ⟨[0x1B], [.d 0x00, .e 0x00, .f 0xF0], .good [.d 0xFF, .e 0xFF, .pc 0x0101, .f 0xF0]⟩,
   ⟨[0x3B], [.sp 0x0000], .good [.sp 0xFFFF, .pc 0x0101, .f 0x00]⟩,
   ⟨[0xE8, 0x02], [.sp 0xFFF8], .good [.sp 0xFFFA, .pc 0x0102, .f 0x00]⟩,
   ⟨[0xE8, 0xFF], [.sp 0x0001], .good [.sp 0x0000, .pc 0x0102, .f 0x30]⟩,
   ⟨[0xE8, 0xFF], [.sp 0x0000], .good [.sp 0xFFFF, .pc 0x0102, .f 0x00]⟩,
   ⟨[0xE8, 0x80], [.sp 0x1000], .good [.sp 0x0F80, .pc 0x0102, .f 0x00]⟩,
   ⟨[0xE8, 0x08], [.f 0x80, .sp 0x00F8], .good [.sp 0x0100, .pc 0x0102, .f 0x30]⟩,
   ⟨[0xF8, 0xFF], [.sp 0x000F], .good [.l 0x0E, .pc 0x0102, .f 0x30]⟩,
   ⟨[0xF8, 0x00], [.f 0xF0, .sp 0xABCD], .good [.h 0xAB, .l 0xCD, .pc 0x0102, .f 0x00]⟩]

theorem test_vectors_alu16 : (vectorsAlu16).all Vector1.holds = true := by decide +kernel

/-- Vectors V-R1 to V-R20. -/
def vectorsRotateShiftBit1 : List Vector1 :=
  [⟨[0x07], [.a 0x89], .good [.a 0x13, .pc 0x0101, .f 0x10]⟩,
   ⟨[0x07], [.a 0x00, .f 0x80], .good [.pc 0x0101, .f 0x00]⟩,
   ⟨[0x0F], [.a 0x01], .good [.a 0x80, .pc 0x0101, .f 0x10]⟩,
   ⟨[0x17], [.a 0x80, .f 0x00], .good [.a 0x00, .pc 0x0101, .f 0x10]⟩,
   ⟨[0x17], [.a 0x55, .f 0x10], .good [.a 0xAB, .pc 0x0101, .f 0x00]⟩,
   ⟨[0x1F], [.a 0x01, .f 0x00], .good [.a 0x00, .pc 0x0101, .f 0x10]⟩,
   ⟨[0x1F], [.a 0x8A, .f 0x10], .good [.a 0xC5, .pc 0x0101, .f 0x00]⟩,
   ⟨[0xCB, 0x00], [.b 0x85], .good [.b 0x0B, .pc 0x0102, .f 0x10]⟩,
   ⟨[0xCB, 0x00], [.b 0x00, .f 0x10], .good [.pc 0x0102, .f 0x80]⟩,
   ⟨[0xCB, 0x06], [.h 0xC0, .l 0x00, .mem 0xC000 0x80], .good [.pc 0x0102, .mem 0xC000 0x01, .f 0x10]⟩,
   ⟨[0xCB, 0x09], [.c 0x01], .good [.c 0x80, .pc 0x0102, .f 0x10]⟩,
   ⟨[0xCB, 0x0E], [.h 0xC0, .l 0x00, .mem 0xC000 0x02], .good [.pc 0x0102, .mem 0xC000 0x01, .f 0x00]⟩,
   ⟨[0xCB, 0x12], [.d 0x80, .f 0x00], .good [.d 0x00, .pc 0x0102, .f 0x90]⟩,
   ⟨[0xCB, 0x12], [.d 0x11, .f 0x10], .good [.d 0x23, .pc 0x0102, .f 0x00]⟩,
   ⟨[0xCB, 0x16], [.h 0xC0, .l 0x00, .f 0x10, .mem 0xC000 0x7F], .good [.pc 0x0102, .mem 0xC000 0xFF, .f 0x00]⟩,
   ⟨[0xCB, 0x1B], [.e 0x01, .f 0x00], .good [.e 0x00, .pc 0x0102, .f 0x90]⟩,
   ⟨[0xCB, 0x1E], [.h 0xC0, .l 0x00, .f 0x10, .mem 0xC000 0x8A], .good [.pc 0x0102, .mem 0xC000 0xC5, .f 0x00]⟩,
   ⟨[0xCB, 0x24], [.h 0x80], .good [.h 0x00, .pc 0x0102, .f 0x90]⟩,
   ⟨[0xCB, 0x26], [.h 0xC0, .l 0x00, .mem 0xC000 0xFF], .good [.pc 0x0102, .mem 0xC000 0xFE, .f 0x10]⟩,
   ⟨[0xCB, 0x2D], [.l 0x81], .good [.l 0xC0, .pc 0x0102, .f 0x10]⟩]

/-- Vectors V-R21 to V-R36. -/
def vectorsRotateShiftBit2 : List Vector1 :=
  [⟨[0xCB, 0x2F], [.a 0x01], .good [.a 0x00, .pc 0x0102, .f 0x90]⟩,
   ⟨[0xCB, 0x2E], [.h 0xC0, .l 0x00, .mem 0xC000 0x8A], .good [.pc 0x0102, .mem 0xC000 0xC5, .f 0x00]⟩,
   ⟨[0xCB, 0x37], [.a 0xF1, .f 0x70], .good [.a 0x1F, .pc 0x0102, .f 0x00]⟩,
   ⟨[0xCB, 0x30], [.b 0x00, .f 0x10], .good [.pc 0x0102, .f 0x80]⟩,
   ⟨[0xCB, 0x36], [.h 0xC0, .l 0x00, .mem 0xC000 0xAB], .good [.pc 0x0102, .mem 0xC000 0xBA, .f 0x00]⟩,
   ⟨[0xCB, 0x3F], [.a 0x01], .good [.a 0x00, .pc 0x0102, .f 0x90]⟩,
   ⟨[0xCB, 0x38], [.b 0xFF], .good [.b 0x7F, .pc 0x0102, .f 0x10]⟩,
   ⟨[0xCB, 0x3E], [.h 0xC0, .l 0x00, .mem 0xC000 0x80], .good [.pc 0x0102, .mem 0xC000 0x40, .f 0x00]⟩,
   ⟨[0xCB, 0x7C], [.h 0x80, .f 0x00], .good [.pc 0x0102, .f 0x20]⟩,
   ⟨[0xCB, 0x7C], [.h 0x7F, .f 0x10], .good [.pc 0x0102, .f 0xB0]⟩,
   ⟨[0xCB, 0x47], [.a 0x01, .f 0xD0], .good [.pc 0x0102, .f 0x30]⟩,
   ⟨[0xCB, 0x66], [.h 0xC0, .l 0x00, .mem 0xC000 0xEF], .good [.pc 0x0102, .f 0xA0]⟩,
   ⟨[0xCB, 0x9F], [.a 0xFF, .f 0xF0], .good [.a 0xF7, .pc 0x0102, .f 0xF0]⟩,
   ⟨[0xCB, 0xBE], [.h 0xC0, .l 0x00, .mem 0xC000 0xFF], .good [.pc 0x0102, .mem 0xC000 0x7F, .f 0x00]⟩,
   ⟨[0xCB, 0xC0], [.b 0x00, .f 0x00], .good [.b 0x01, .pc 0x0102, .f 0x00]⟩,
   ⟨[0xCB, 0xFE], [.h 0xC0, .l 0x00, .mem 0xC000 0x00], .good [.pc 0x0102, .mem 0xC000 0x80, .f 0x00]⟩]

theorem test_vectors_rotateshiftbit : (vectorsRotateShiftBit1 ++ vectorsRotateShiftBit2).all Vector1.holds = true := by decide +kernel

/-- Vectors V-C1 to V-C20. -/
def vectorsControl1 : List Vector1 :=
  [⟨[0xC3, 0x34, 0x12], [], .good [.pc 0x1234, .f 0x00]⟩,
   ⟨[0xC2, 0x00, 0x20], [.f 0x00], .good [.pc 0x2000, .f 0x00]⟩,
   ⟨[0xC2, 0x00, 0x20], [.f 0x80], .good [.pc 0x0103, .f 0x80]⟩,
   ⟨[0xDA, 0x00, 0x20], [.f 0x10], .good [.pc 0x2000, .f 0x10]⟩,
   ⟨[0xE9], [.h 0x45, .l 0x67, .pc 0x0300], .good [.pc 0x4567, .f 0x00]⟩,
   ⟨[0x18, 0x80], [.pc 0x1000], .good [.pc 0x0F82, .f 0x00]⟩,
   ⟨[0x18, 0x7F], [.pc 0x1000], .good [.pc 0x1081, .f 0x00]⟩,
   ⟨[0x18, 0xFE], [.pc 0x1000], .good [.pc 0x1000, .f 0x00]⟩,
   ⟨[0x18, 0x10], [.pc 0xFFF8], .good [.pc 0x000A, .f 0x00]⟩,
   ⟨[0x18, 0x80], [.pc 0x0010], .good [.pc 0xFF92, .f 0x00]⟩,
   ⟨[0x28, 0x05], [.f 0x80], .good [.pc 0x0107, .f 0x80]⟩,
   ⟨[0x28, 0x05], [.f 0x00], .good [.pc 0x0102, .f 0x00]⟩,
   ⟨[0x30, 0xFB], [.f 0x00], .good [.pc 0x00FD, .f 0x00]⟩,
   ⟨[0xCD, 0xAA, 0x22], [.sp 0xFF00, .pc 0x11AA],
     .good [.sp 0xFEFE, .pc 0x22AA, .mem 0xFEFE 0xAD, .mem 0xFEFF 0x11, .f 0x00]⟩,
   ⟨[0xCD, 0x00, 0x30], [.sp 0x0000], .good [.sp 0xFFFE, .pc 0x3000, .mem 0xFFFE 0x03, .mem 0xFFFF 0x01, .f 0x00]⟩,
   ⟨[0xC4, 0x00, 0x30], [.f 0x80, .sp 0xD000], .good [.pc 0x0103, .f 0x80]⟩,
   ⟨[0xD4, 0x00, 0x30], [.f 0x00, .sp 0xD000],
     .good [.sp 0xCFFE, .pc 0x3000, .mem 0xCFFE 0x03, .mem 0xCFFF 0x01, .f 0x00]⟩,
   ⟨[0xC9], [.sp 0xFF00, .pc 0x0000, .mem 0xFF00 0xAA, .mem 0xFF01 0xFF], .good [.sp 0xFF02, .pc 0xFFAA, .f 0x00]⟩,
   ⟨[0xC9], [.sp 0xFFFF, .mem 0xFFFF 0x34, .mem 0x0000 0x12], .good [.sp 0x0001, .pc 0x1234, .f 0x00]⟩,
   ⟨[0xC8], [.f 0x80, .sp 0xCFFE, .mem 0xCFFE 0x03, .mem 0xCFFF 0x01], .good [.sp 0xD000, .pc 0x0103, .f 0x80]⟩]

/-- Vectors V-C21 to V-C24. -/
def vectorsControl2 : List Vector1 :=
  [⟨[0xC8], [.f 0x00, .sp 0xCFFE, .mem 0xCFFE 0x03, .mem 0xCFFF 0x01], .good [.pc 0x0101, .f 0x00]⟩,
   ⟨[0xD9], [.sp 0xCFFE, .ime false, .mem 0xCFFE 0x00, .mem 0xCFFF 0x02],
     .good [.sp 0xD000, .pc 0x0200, .ime true, .f 0x00]⟩,
   ⟨[0xFF], [.sp 0xD000, .pc 0x1234], .good [.sp 0xCFFE, .pc 0x0038, .mem 0xCFFE 0x35, .mem 0xCFFF 0x12, .f 0x00]⟩,
   ⟨[0xC7], [.sp 0xD000, .pc 0x0200], .good [.sp 0xCFFE, .pc 0x0000, .mem 0xCFFE 0x01, .mem 0xCFFF 0x02, .f 0x00]⟩]

theorem test_vectors_control : (vectorsControl1 ++ vectorsControl2).all Vector1.holds = true := by decide +kernel

/-- Vectors V-L1 to V-L20. -/
def vectorsLoadStack1 : List Vector1 :=
  [⟨[0x41], [.b 0x00, .c 0x5A], .good [.b 0x5A, .pc 0x0101, .f 0x00]⟩,
   ⟨[0x78], [.a 0x00, .b 0x99], .good [.a 0x99, .pc 0x0101, .f 0x00]⟩,
   ⟨[0x66], [.h 0xC0, .l 0x00, .mem 0xC000 0x7E], .good [.h 0x7E, .pc 0x0101, .f 0x00]⟩,
   ⟨[0x75], [.h 0xC0, .l 0x12], .good [.pc 0x0101, .mem 0xC012 0x12, .f 0x00]⟩,
   ⟨[0x1E, 0xA5], [], .good [.e 0xA5, .pc 0x0102, .f 0x00]⟩,
   ⟨[0x36, 0x42], [.h 0xC0, .l 0x00], .good [.pc 0x0102, .mem 0xC000 0x42, .f 0x00]⟩,
   ⟨[0x01, 0x10, 0xFC], [], .good [.b 0xFC, .c 0x10, .pc 0x0103, .f 0x00]⟩,
   ⟨[0x31, 0xFE, 0xFF], [], .good [.sp 0xFFFE, .pc 0x0103, .f 0x00]⟩,
   ⟨[0x02], [.a 0x3C, .b 0xC1, .c 0x00], .good [.pc 0x0101, .mem 0xC100 0x3C, .f 0x00]⟩,
   ⟨[0x12], [.a 0x3C, .d 0xC2, .e 0x00], .good [.pc 0x0101, .mem 0xC200 0x3C, .f 0x00]⟩,
   ⟨[0x0A], [.b 0xC1, .c 0x00, .mem 0xC100 0x2F], .good [.a 0x2F, .pc 0x0101, .f 0x00]⟩,
   ⟨[0x1A], [.d 0xC2, .e 0x00, .mem 0xC200 0x5F], .good [.a 0x5F, .pc 0x0101, .f 0x00]⟩,
   ⟨[0x22], [.h 0x00, .l 0xAA, .a 0x0F], .good [.l 0xAB, .pc 0x0101, .mem 0x00AA 0x0F, .f 0x00]⟩,
   ⟨[0x22], [.h 0xFF, .l 0xFF, .a 0x5A], .good [.h 0x00, .l 0x00, .pc 0x0101, .mem 0xFFFF 0x5A, .f 0x00]⟩,
   ⟨[0x32], [.h 0x00, .l 0xAB, .a 0x0F], .good [.l 0xAA, .pc 0x0101, .mem 0x00AB 0x0F, .f 0x00]⟩,
   ⟨[0x32], [.h 0x00, .l 0x00, .a 0x5A], .good [.h 0xFF, .l 0xFF, .pc 0x0101, .mem 0x0000 0x5A, .f 0x00]⟩,
   ⟨[0x2A], [.h 0xC0, .l 0x00, .mem 0xC000 0x56], .good [.a 0x56, .l 0x01, .pc 0x0101, .f 0x00]⟩,
   ⟨[0x3A], [.h 0xC0, .l 0x00, .mem 0xC000 0x56], .good [.a 0x56, .h 0xBF, .l 0xFF, .pc 0x0101, .f 0x00]⟩,
   ⟨[0xE0, 0x80], [.a 0x11], .good [.pc 0x0102, .mem 0xFF80 0x11, .f 0x00]⟩,
   ⟨[0xF0, 0xFF], [.mem 0xFFFF 0x3C], .good [.a 0x3C, .pc 0x0102, .f 0x00]⟩]

/-- Vectors V-L21 to V-L35. -/
def vectorsLoadStack2 : List Vector1 :=
  [⟨[0xE2], [.a 0x22, .c 0x85], .good [.pc 0x0101, .mem 0xFF85 0x22, .f 0x00]⟩,
   ⟨[0xF2], [.c 0x00, .mem 0xFF00 0xCF], .good [.a 0xCF, .pc 0x0101, .f 0x00]⟩,
   ⟨[0xEA, 0x00, 0xC0], [.a 0x99], .good [.pc 0x0103, .mem 0xC000 0x99, .f 0x00]⟩,
   ⟨[0xFA, 0x34, 0x12], [.mem 0x1234 0x77], .good [.a 0x77, .pc 0x0103, .f 0x00]⟩,
   ⟨[0x08, 0x00, 0xC1], [.sp 0xFFF8], .good [.pc 0x0103, .mem 0xC100 0xF8, .mem 0xC101 0xFF, .f 0x00]⟩,
   ⟨[0x08, 0xFF, 0xFF], [.sp 0x1234], .good [.pc 0x0103, .mem 0x0000 0x12, .mem 0xFFFF 0x34, .f 0x00]⟩,
   ⟨[0xF9], [.h 0xAB, .l 0xCD], .good [.sp 0xABCD, .pc 0x0101, .f 0x00]⟩,
   ⟨[0xC5], [.b 0x12, .c 0x34, .sp 0xD000],
     .good [.sp 0xCFFE, .pc 0x0101, .mem 0xCFFE 0x34, .mem 0xCFFF 0x12, .f 0x00]⟩,
   ⟨[0xF5], [.a 0x12, .f 0xFF, .sp 0xD000, .fLow .preserve],
     .good [.sp 0xCFFE, .pc 0x0101, .mem 0xCFFE 0xFF, .mem 0xCFFF 0x12, .f 0xFF]⟩,
   ⟨[0xE5], [.h 0xBE, .l 0xEF, .sp 0x0001],
     .good [.sp 0xFFFF, .pc 0x0101, .mem 0x0000 0xBE, .mem 0xFFFF 0xEF, .f 0x00]⟩,
   ⟨[0xD1], [.sp 0xCFFE, .mem 0xCFFE 0x3C, .mem 0xCFFF 0x5A],
     .good [.d 0x5A, .e 0x3C, .sp 0xD000, .pc 0x0101, .f 0x00]⟩,
   ⟨[0xE1], [.sp 0xFFFF, .mem 0xFFFF 0x11, .mem 0x0000 0x22],
     .good [.h 0x22, .l 0x11, .sp 0x0001, .pc 0x0101, .f 0x00]⟩,
   ⟨[0xF1], [.sp 0xCFFE, .mem 0xCFFE 0xFF, .mem 0xCFFF 0x12, .fLow .preserve],
     .good [.a 0x12, .sp 0xD000, .pc 0x0101, .f 0xFF]⟩,
   ⟨[0xF1], [.sp 0xCFFE, .mem 0xCFFE 0xFF, .mem 0xCFFF 0x12, .fLow .zero],
     .good [.a 0x12, .sp 0xD000, .pc 0x0101, .f 0xF0]⟩,
   ⟨[0xF5], [.a 0x12, .sp 0xD000, .fLow .zero, .f 0xF0],
     .good [.sp 0xCFFE, .pc 0x0101, .mem 0xCFFE 0xF0, .mem 0xCFFF 0x12, .f 0xF0]⟩]

theorem test_vectors_loadstack : (vectorsLoadStack1 ++ vectorsLoadStack2).all Vector1.holds = true := by decide +kernel

/-- Vectors V-S1 to V-S11. -/
def vectorsSystem : List Vector1 :=
  [⟨[0x00], [], .good [.pc 0x0101, .f 0x00]⟩,
   ⟨[0x00], [.pc 0xFFFF], .good [.pc 0x0000, .f 0x00]⟩,
   ⟨[0x76], [.ime true], .good [.pc 0x0101, .halted true, .f 0x00]⟩,
   ⟨[0x76], [.ime false], .good [.pc 0x0102, .halted true, .f 0x00]⟩,
   ⟨[0x76], [.pc 0xFFFF, .ime false], .good [.pc 0x0001, .halted true, .f 0x00]⟩,
   ⟨[0x10, 0x00], [.pc 0x0005, .stopLen .one], .good [.pc 0x0006, .stopped true, .f 0x00]⟩,
   ⟨[0x10, 0x00], [.pc 0x0005, .stopLen .two], .good [.pc 0x0007, .stopped true, .f 0x00]⟩,
   ⟨[0xF3], [.ime true], .good [.pc 0x0101, .ime false, .f 0x00]⟩,
   ⟨[0xFB], [.ime false], .good [.pc 0x0101, .ime true, .f 0x00]⟩,
   ⟨[0xD3], [], .bad (.unknownOpcode 0xD3)⟩,
   ⟨[0xFD], [.a 0x12], .bad (.unknownOpcode 0xFD)⟩]

theorem test_vectors_system : (vectorsSystem).all Vector1.holds = true := by decide +kernel

/-- Vectors V-F1 to V-F14. -/
def vectorsFault : List Vector1 :=
  [⟨[], [.pc 0x8000, .size 0x8000], .bad (.invalidAddress 0x8000)⟩,
   ⟨[0x3E], [.pc 0x7FFF, .size 0x8000], .bad (.invalidAddress 0x8000)⟩,
   ⟨[0xCD], [.sp 0x7000, .pc 0x7FFF, .size 0x8000], .bad (.invalidAddress 0x8000)⟩,
   ⟨[0xCD, 0x00, 0x10], [.sp 0x8001, .size 0x8000], .bad (.invalidAddress 0x8000)⟩,
   ⟨[0xC5], [.b 0x12, .c 0x34, .sp 0x8001, .size 0x8000], .bad (.invalidAddress 0x8000)⟩,
   ⟨[0x08, 0xFF, 0x7F], [.sp 0xBEEF, .size 0x8000], .bad (.invalidAddress 0x8000)⟩,
   ⟨[0x7E], [.h 0x90, .l 0x00, .size 0x8000], .bad (.invalidAddress 0x9000)⟩,
   ⟨[0x34], [.h 0xFF, .l 0xFF, .f 0x00, .size 0x8000], .bad (.invalidAddress 0xFFFF)⟩,
   ⟨[0xC2, 0x00, 0x00], [.f 0x80, .pc 0x7FFD, .size 0x8000], .good [.pc 0x8000, .f 0x80]⟩,
   ⟨[0xC8], [.f 0x00, .sp 0xFFFE, .size 0x8000], .good [.pc 0x0101, .f 0x00]⟩,
   ⟨[0xC8], [.f 0x80, .sp 0xFFFE, .size 0x8000], .bad (.invalidAddress 0xFFFE)⟩,
   ⟨[0x10], [.pc 0x7FFF, .stopLen .two, .size 0x8000], .bad (.invalidAddress 0x8000)⟩,
   ⟨[0x10], [.pc 0x7FFF, .stopLen .one, .size 0x8000], .good [.pc 0x8000, .stopped true, .f 0x00]⟩,
   ⟨[0x76], [.pc 0x7FFF, .ime false, .size 0x8000], .good [.pc 0x8001, .halted true, .f 0x00]⟩]

theorem test_vectors_fault : (vectorsFault).all Vector1.holds = true := by decide +kernel

/-! ## The router vectors of section 3, and the configuration faults -/

/-- A read after a write through a byte-addressable object. -/
def pokePeek (s : State) (p : Port) (a : Nat) (v : Byte) (b : Nat) : Out Byte :=
  andThen (hostPoke s p a v) fun t => hostPeek t p b

theorem test_router_built_by_map :
    (andThen (routerMap .nil (.flat 0) ⟨0, 0x7FFF⟩ ⟨0, 0x7FFF⟩) fun e1 =>
      andThen (routerMap e1 (.flat 1) ⟨0, 0x1FFF⟩ ⟨0xC000, 0xDFFF⟩) fun e2 =>
        routerMap e2 (.flat 1) ⟨0, 0x1DFF⟩ ⟨0xE000, 0xFDFF⟩) = .next mirrored := by rfl
theorem test_M1_mirror : pokePeek (routed [] []) (.router mirrored) 0xC000 0x42 0xE000 = .next 0x42 := by rfl
theorem test_M2_mirror_end : pokePeek (routed [] []) (.router mirrored) 0xFDFF 0x99 0xDDFF = .next 0x99 := by rfl
theorem test_M3_unmapped : hostPeek (routed [] []) (.router mirrored) 0x8000 = .fault (.unmappedAddress 0x8000) := by rfl
theorem test_M4_unmapped : hostPeek (routed [] []) (.router mirrored) 0xFE00 = .fault (.unmappedAddress 0xFE00) := by rfl
theorem test_M5_overlap : routerMap mirrored (.flat 1) ⟨0, 0xFF⟩ ⟨0xD000, 0xD0FF⟩ =
    .fault (.overlappingMap ⟨0xD000, 0xD0FF⟩) := by rfl
theorem test_M6_sizes : routerMap mirrored (.flat 0) ⟨0, 0xFF⟩ ⟨0xFE00, 0xFEFE⟩ =
    .fault (.mismatchedRangeSize ⟨0, 0xFF⟩ ⟨0xFE00, 0xFEFE⟩) := by rfl
theorem test_M7_reversed : routerMap mirrored (.flat 0) ⟨0x10, 0x0F⟩ ⟨0xFE10, 0xFE0F⟩ =
    .fault (.mismatchedRangeSize ⟨0x10, 0x0F⟩ ⟨0xFE10, 0xFE0F⟩) := by rfl

/-- The router after V-M8. -/
def overhanging : MapList := appendEntry (.flat 1) ⟨0x1F80, 0x207F⟩ ⟨0xFF00, 0xFFFF⟩ mirrored

theorem test_M8_accepted : routerMap mirrored (.flat 1) ⟨0x1F80, 0x207F⟩ ⟨0xFF00, 0xFFFF⟩ = .next overhanging := by rfl
theorem test_M9_inside : hostPeek (routed [] []) (.router overhanging) 0xFF00 = .next 0x00 := by rfl
theorem test_M9_backing_fault :
    hostPeek (routed [] []) (.router overhanging) 0xFFFF = .fault (.invalidAddress 0x207F) := by rfl
theorem test_M10_valid_by_local_range : hostIsValid (routed [] []) (.router overhanging) 0xFFFF = true ∧
    hostIsValid (routed [] []) (.router overhanging) 0x9000 = false := by decide

/-- The machine of V-M11: PUSH BC with the second stack address unmapped. -/
def m11 : State := { routed [(0, 0xC5)] [] with b := 0x12, c := 0x34, sp := 0xC001 }

theorem test_M11_push_undone : step m11 = .fault (.unmappedAddress 0xBFFF) := by rfl
theorem test_M12_store_seen_in_mirror :
    (andThen (step { routed [(0, 0x77), (1, 0x7E)] [] with h := 0xC0, l := 0x10, a := 0x5A }) fun t =>
      andThen (step { t with h := 0xE0, l := 0x10, a := 0x00 }) fun u => .next u.a) = .next 0x5A := next_of_answers (by decide +kernel)

/-! ## Each statement's hypotheses are met

`ram` is a machine on the whole 64 KiB, `half` one on 0x8000 bytes, whose first missing address is 0x8000. -/

/-- HL = 0xFFFF, SP = 0x0000: the accesses stand at the ends of the address space. -/
def ram : State := { flat 0x10000 [(0, 0x12), (0xFFFF, 0x34)] with h := 0xFF, l := 0xFF, b := 0xFF, c := 0xFF, d := 0x00 }

/-- Every address of `ram` names its own cell. -/
theorem ram_cell (a : Word) : ram.cell a = .next (0, a.toNat) := by
  have h : a.toNat < 65536 := a.isLt
  simp [State.cell, cellIn, locate, ram, flat, State.reset, State.resetOver, FlatStore.isValid, andThen, h]

/-- HL = 0x8000, SP = 0x8000: one address past the end of the store; SP - 1 is its last. -/
def half : State := { flat 0x8000 [] with h := 0x80, b := 0x80, d := 0x80, sp := 0x8000 }

/-- Every address of the pushes and pops of `aliased` names one cell: 0xBFFF and 0xC000 are S1's first byte. -/
def aliased : State :=
  { flat 0x8000 [] with
    attached := some (.router (.cons (.flat 0) ⟨0, 0⟩ ⟨0xBFFF, 0xBFFF⟩ (.cons (.flat 0) ⟨0, 0⟩ ⟨0xC000, 0xC000⟩ .nil)))
    sp := 0xC001
    b := 0x12
    c := 0x34 }

/-- A machine with the given bytes at 0 under F_LOW_POLICY = Zero. -/
def zeroLow (l : List (Nat × Byte)) : State := { flat 0x10000 l with params := ⟨.zero, .two⟩, f := 0xF0, sp := 0xD000 }

theorem witness_DecodedBytesAreTheEncoding : decode .two [0x10, 0x3C, 0xFF] = .ok (.stop, [0xFF]) ∧
    decode .one [0xCB, 0xFF] = .ok (.set_7_A, []) := ⟨rfl, rfl⟩

theorem witness_DecoderIsTotalAndLengthIsByFirstByte : instrLength .two 0xCD ≤ [(0xAA : Byte), 0x22].length + 1 ∧
    [(0xAA : Byte)].length + 1 < instrLength .two 0xCD := by decide

theorem witness_UnusedOpcodesFaultAlways :
    (memRead (flat 1 [(0, 0xFD)]) 0 = .next (Unused.opcode .xFD)) ∧
    step (flat 1 [(0, 0xFD)]) = .fault (.unknownOpcode 0xFD) := ⟨rfl, rfl⟩

theorem witness_StepRunsDecodedInstruction :
    readBytes { flat 0x10000 [(0xFFFE, 0xCD), (0xFFFF, 0xAA), (0, 0x22)] with pc := 0xFFFE } 0xFFFE 3 =
      .next [0xCD, 0xAA, 0x22] ∧ decode .two [0xCD, 0xAA, 0x22] = .ok (.call_a16 0x22AA, []) := ⟨rfl, rfl⟩

theorem witness_PcAdvancesByInstructionLength :
    ∃ t, readBytes { flat 0x10000 [(0xFFFF, 0x3E), (0, 0x19)] with pc := 0xFFFF } 0xFFFF 2 = .next [0x3E, 0x19] ∧
      decode .two [0x3E, 0x19] = .ok (instrOf (.ldImm (.reg .a) 0x19), []) ∧
      formWritesPC (.ldImm (.reg .a) 0x19) = false ∧
      step { flat 0x10000 [(0xFFFF, 0x3E), (0, 0x19)] with pc := 0xFFFF } = .next t ∧ t.pc = 1 :=
  ⟨_, rfl, rfl, rfl, rfl, rfl⟩

theorem witness_FetchFaultIsTheFirstUnreadableByte :
    (readBytes { half with pc := 0x8000 } 0x8000 0 = .next [] ∧
      memRead { half with pc := 0x8000 } (0x8000 + BitVec.ofNat 16 0) = .fault (.invalidAddress 0x8000)) ∧
    (readBytes { flat 0x8000 [(0x7FFE, 0xCD)] with pc := 0x7FFE } 0x7FFE 2 = .next [0xCD, 0x00] ∧
      2 < instrLength .two 0xCD ∧
      memRead { flat 0x8000 [(0x7FFE, 0xCD)] with pc := 0x7FFE } (0x7FFE + BitVec.ofNat 16 2) =
        .fault (.invalidAddress 0x8000)) := ⟨⟨rfl, rfl⟩, rfl, by decide, rfl⟩

theorem witness_DataFaultIsTheFirstFailingAccess :
    formAccesses m11 (.push .bc) = [0xC000] ++ 0xBFFF :: [] ∧ (∀ b ∈ [(0xC000 : Word)], m11.Addressable b) ∧
    m11.cell 0xBFFF = .fault (.unmappedAddress 0xBFFF) := by
  refine ⟨by decide +kernel, fun b hb => ?_, fault_of_faults (by decide +kernel)⟩
  obtain rfl := List.mem_singleton.mp hb
  exact ⟨(1, 0), next_of_answers (by decide +kernel)⟩

theorem witness_InstructionsCompleteWhereAddressesExist : formIsUnused (.push .bc) = false ∧
    formAccesses ram (.push .bc) = [0xFFFF, 0xFFFE] ∧ ram.Addressable 0xFFFF ∧ ram.Addressable 0xFFFE :=
  ⟨rfl, by decide +kernel, ⟨_, ram_cell _⟩, _, ram_cell _⟩

theorem witness_StepAnswersNextOrOneOfThreeFaults : State.reset.wf = true ∧ State.reset.attached ≠ none ∧
    m11.wf = true ∧ m11.attached ≠ none ∧ half.wf = true ∧ half.attached ≠ none := by decide

theorem witness_RunStateTransitions : (∃ t, exec .halt ram = .next t ∧ t.halted = true) ∧
    (∃ t, exec .stop ram = .next t ∧ t.stopped = true) ∧ step m11 = .fault (.unmappedAddress 0xBFFF) :=
  ⟨⟨_, rfl, rfl⟩, ⟨_, rfl, rfl⟩, rfl⟩

theorem witness_ImeIsWrittenByThreeAndReadByHalt : (∃ t, exec .di ram = .next t ∧ t.ime = false) ∧
    (∃ t, exec .reti ram = .next t ∧ t.ime = true) ∧ (∃ t, exec .nop ram = .next t ∧ t.ime = ram.ime) ∧
    Instr.nop ≠ .halt := ⟨⟨_, rfl, rfl⟩, ⟨_, rfl, rfl⟩, ⟨_, rfl, rfl⟩, by decide⟩

theorem witness_StepKeepsTheConfiguration : ∃ t, step { routed [(0, 0x77)] [] with h := 0xE0, a := 0x5A } = .next t ∧
    t.stores = [⟨0x8000, [(0, 0x77)]⟩, ⟨0x2000, [(0, 0x5A)]⟩] := ⟨_, rfl, rfl⟩

theorem witness_StepKeepsMachineWellFormed :
    (zeroLow [(0, 0xF1), (0xD000, 0xFF)]).wf = true ∧
    ∃ t, step (zeroLow [(0, 0xF1), (0xD000, 0xFF)]) = .next t ∧ t.f = 0xF0 := ⟨by decide, _, rfl, rfl⟩

theorem witness_ResetMachineIsWellFormed : m11.wf = true := by decide

theorem witness_FlatStoreReadsLastWriteWithinBounds : FlatStore.wf ⟨0x8000, [(0x7FFF, 0x11)]⟩ = true ∧
    0x7FFF < FlatStore.size ⟨0x8000, [(0x7FFF, 0x11)]⟩ ∧ FlatStore.size ⟨0x8000, [(0x7FFF, 0x11)]⟩ ≤ 0x8000 := by decide

theorem witness_CanonicalMemoriesThatReadAlikeAreEqual : (listed [(1, 0x11), (2, 0x22)]).wf = true ∧
    (listed [(2, 0x22), (3, 0x33), (1, 0x11), (3, 0x00)]).wf = true ∧
    ∀ a, (listed [(1, 0x11), (2, 0x22)]).get a = (listed [(2, 0x22), (3, 0x33), (1, 0x11), (3, 0x00)]).get a :=
  ⟨by decide, by decide, fun _ => rfl⟩

theorem witness_RouterDelegatesByLocalRange :
    (entriesOf mirrored).find? (fun e => e.2.2.contains 0xFDFF) = some (.flat 1, ⟨0, 0x1DFF⟩, ⟨0xE000, 0xFDFF⟩) ∧
    (entriesOf mirrored).find? (fun e => e.2.2.contains 0xFE00) = none ∧ mirrored.wf 2 = true ∧
    (.flat 1, ⟨0, 0x1DFF⟩, ⟨0xE000, 0xFDFF⟩) ∈ entriesOf mirrored ∧
    AddrRange.contains ⟨0xE000, 0xFDFF⟩ 0xE000 = true := ⟨rfl, rfl, by decide, by decide, by decide⟩

/-- The tests of `map` at their edges: ranges that touch and ranges that overlap by one, sizes that differ by one. -/
theorem witness_MapRefusesOrAppends :
    (¬ ((1 : Nat) : Int) - (0 : Nat) ≠ ((0xE001 : Nat) : Int) - (0xE000 : Nat)) ∧
    (¬ ∃ e ∈ entriesOf mirrored, 0xFE00 ≤ e.2.2.hi ∧ e.2.2.lo ≤ 0xFE01) ∧
    (∃ e ∈ entriesOf mirrored, 0xFDFF ≤ e.2.2.hi ∧ e.2.2.lo ≤ 0xFE00) ∧
    ((1 : Nat) : Int) - (0 : Nat) ≠ ((0xFE02 : Nat) : Int) - (0xFE00 : Nat) := by decide

theorem witness_StoreIsSeenThroughEveryAlias :
    (routed [] []).attached = some (.router mirrored) ∧ (routed [] []).wf = true ∧
    (routed [] []).cell 0xDDFF = .next (1, 0x1DFF) ∧ (routed [] []).cell 0xFDFF = .next (1, 0x1DFF) ∧
    (routed [] []).cell 0xC000 = .next (1, 0) ∧ aliased.wf = true ∧ aliased.cell (aliased.sp - 1) = .next (0, 0) ∧
    aliased.cell (aliased.sp - 2) = .next (0, 0) := by
  refine ⟨rfl, by decide, ?_, ?_, ?_, by decide, ?_, ?_⟩ <;> exact next_of_answers (by decide +kernel)

theorem witness_PushThenPopRestores : ram.wf = true ∧ ram.cell (ram.sp - 1) = .next (0, 0xFFFF) ∧
    ram.cell (ram.sp - 2) = .next (0, 0xFFFE) ∧ ((0, 0xFFFF) : CellRef) ≠ (0, 0xFFFE) :=
  ⟨by decide, rfl, rfl, by decide⟩

theorem witness_CallThenReturnContinuesAfterTheCall : ram.wf = true ∧ (∃ a, Instr.call_a16 0x3000 = .call_a16 a) ∧
    (∃ y, Instr.rst_38 = rstInstr y) ∧ ram.cell (ram.sp - 1) = .next (0, 0xFFFF) ∧
    ram.cell (ram.sp - 2) = .next (0, 0xFFFE) ∧ ((0, 0xFFFF) : CellRef) ≠ (0, 0xFFFE) ∧
    ∃ t, exec (.call_a16 0x3000) ram = .next t ∧ ({ t with a := 0x77, pc := 0x1234 } : State).sp = t.sp :=
  ⟨by decide, ⟨_, rfl⟩, ⟨.o7, rfl⟩, rfl, rfl, by decide, _, rfl, rfl⟩

/-- The slot operand at HL where the cell exists, at the last address, and where it does not, one past the end. -/
theorem witness_OperandAtHL : ram.cell ram.hl = .next (0, 0xFFFF) ∧ half.cell half.hl = .fault (.invalidAddress 0x8000) :=
  ⟨rfl, rfl⟩

theorem witness_AdderSubtracterAndLogicUnit : AluOp.or = .and ∨ AluOp.or = .xor ∨ AluOp.or = .or := by decide
theorem witness_AddAndAdcWriteSumAndFlags : ram.cell ram.hl = .next (0, 0xFFFF) ∧
    half.cell half.hl = .fault (.invalidAddress 0x8000) := witness_OperandAtHL
theorem witness_SubAndSbcWriteDifferenceAndFlags : ram.cell ram.hl = .next (0, 0xFFFF) ∧
    half.cell half.hl = .fault (.invalidAddress 0x8000) := witness_OperandAtHL
theorem witness_LogicOperationsWriteAAndFlags : ram.cell ram.hl = .next (0, 0xFFFF) ∧
    half.cell half.hl = .fault (.invalidAddress 0x8000) := witness_OperandAtHL
theorem witness_CompareWritesFlagsOnly : ram.cell ram.hl = .next (0, 0xFFFF) ∧
    half.cell half.hl = .fault (.invalidAddress 0x8000) := witness_OperandAtHL
theorem witness_IncAndDecKeepCarry : ram.cell ram.hl = .next (0, 0xFFFF) ∧
    half.cell half.hl = .fault (.invalidAddress 0x8000) := witness_OperandAtHL
theorem witness_CbRotatesOfEverySlot : ram.cell ram.hl = .next (0, 0xFFFF) ∧
    half.cell half.hl = .fault (.invalidAddress 0x8000) := witness_OperandAtHL
theorem witness_CbShiftsAndSwapOfEverySlot : ram.cell ram.hl = .next (0, 0xFFFF) ∧
    half.cell half.hl = .fault (.invalidAddress 0x8000) := witness_OperandAtHL
theorem witness_BitTestsOneBit : ram.cell ram.hl = .next (0, 0xFFFF) ∧
    half.cell half.hl = .fault (.invalidAddress 0x8000) := witness_OperandAtHL
theorem witness_ResAndSetWriteOneBit : ram.cell ram.hl = .next (0, 0xFFFF) ∧
    half.cell half.hl = .fault (.invalidAddress 0x8000) := witness_OperandAtHL
theorem witness_ByteLoadsCopyTheirSource : ram.cell ram.hl = .next (0, 0xFFFF) ∧
    half.cell half.hl = .fault (.invalidAddress 0x8000) := witness_OperandAtHL

theorem witness_DaaFollowsTheCanonicalRule : State.flag { ram with f := 0xB0 } .n = false ∧
    State.flag { ram with f := 0x40 } .n = true := by decide

theorem witness_DaaAfterAdcOrSbcIsDecimal : (99 : Nat) < 100 ∧ (0 : Nat) < 100 ∧
    ({ ram with a := 0x99 } : State).a = bcd 99 := by decide

theorem witness_ShiftUnitMovesBits : 0 < 8 ∧ 7 < 8 := by decide

theorem witness_IndirectLoadsUseOldHL : ram.cell ram.bc = .next (0, 0xFFFF) ∧ ram.cell ram.de = .next (0, 0) ∧
    ram.cell ram.hl = .next (0, 0xFFFF) ∧ half.cell half.bc = .fault (.invalidAddress 0x8000) ∧
    half.cell half.de = .fault (.invalidAddress 0x8000) ∧ half.cell half.hl = .fault (.invalidAddress 0x8000) :=
  ⟨rfl, rfl, rfl, rfl, rfl, rfl⟩

theorem witness_HighPageAndAbsoluteLoads : ram.cell (BitVec.ofNat 16 (0xFF00 + (0xFF : Byte).toNat)) = .next (0, 0xFFFF) ∧
    half.cell (BitVec.ofNat 16 (0xFF00 + (0x00 : Byte).toNat)) = .fault (.invalidAddress 0xFF00) ∧
    ram.cell 0xFFFF = .next (0, 0xFFFF) ∧ half.cell 0x8000 = .fault (.invalidAddress 0x8000) := ⟨rfl, rfl, rfl, rfl⟩

theorem witness_StoreSpIsLittleEndian : ram.cell 0xFFFF = .next (0, 0xFFFF) ∧ ram.cell (0xFFFF + 1) = .next (0, 0) ∧
    half.cell 0x8000 = .fault (.invalidAddress 0x8000) ∧ half.cell 0x7FFF = .next (0, 0x7FFF) ∧
    half.cell (0x7FFF + 1) = .fault (.invalidAddress 0x8000) := ⟨rfl, rfl, rfl, rfl, rfl⟩

/-- Both stack addresses of a push; the first missing; the second missing. -/
theorem witness_StackWrites : ram.cell (ram.sp - 1) = .next (0, 0xFFFF) ∧ ram.cell (ram.sp - 2) = .next (0, 0xFFFE) ∧
    State.cell { half with sp := 0x8001 } (0x8001 - 1) = .fault (.invalidAddress 0x8000) ∧
    m11.cell (m11.sp - 1) = .next (1, 0) ∧ m11.cell (m11.sp - 2) = .fault (.unmappedAddress 0xBFFF) := by
  refine ⟨?_, ?_, ?_, ?_, ?_⟩ <;>
    first | exact next_of_answers (by decide +kernel) | exact fault_of_faults (by decide +kernel)

/-- Both stack addresses of a pop; the first missing; the second missing. -/
theorem witness_StackReads : ram.cell ram.sp = .next (0, 0) ∧ ram.cell (ram.sp + 1) = .next (0, 1) ∧
    half.cell half.sp = .fault (.invalidAddress 0x8000) ∧
    State.cell { half with sp := 0x7FFF } 0x7FFF = .next (0, 0x7FFF) ∧
    State.cell { half with sp := 0x7FFF } (0x7FFF + 1) = .fault (.invalidAddress 0x8000) := ⟨rfl, rfl, rfl, rfl, rfl⟩

theorem witness_PushAndPopMoveTheStack : ram.params.fLow = .preserve ∧ (zeroLow []).params.fLow = .zero ∧
    (zeroLow []).cell (zeroLow []).sp = .next (0, 0xD000) ∧ (zeroLow []).cell ((zeroLow []).sp + 1) = .next (0, 0xD001) ∧
    ram.cell (ram.sp - 1) = .next (0, 0xFFFF) ∧ ram.cell (ram.sp - 2) = .next (0, 0xFFFE) ∧
    ram.cell ram.sp = .next (0, 0) ∧ ram.cell (ram.sp + 1) = .next (0, 1) := ⟨rfl, rfl, rfl, rfl, rfl, rfl, rfl, rfl⟩

/-- Each condition taken and not taken. -/
theorem witness_Conditions : condHolds { ram with f := 0x00 } .nz = true ∧ condHolds { ram with f := 0x80 } .nz = false ∧
    condHolds { ram with f := 0x80 } .z = true ∧ condHolds { ram with f := 0x00 } .z = false ∧
    condHolds { ram with f := 0x00 } .nc = true ∧ condHolds { ram with f := 0x10 } .nc = false ∧
    condHolds { ram with f := 0x10 } .c = true ∧ condHolds { ram with f := 0x00 } .c = false := by decide

theorem witness_CallsPushTheReturnAddress :
    condHolds { ram with f := 0x80 } .z = true ∧ condHolds { ram with f := 0x80 } .nz = false ∧
    State.cell { ram with f := 0x80 } (ram.sp - 1) = .next (0, 0xFFFF) ∧
    State.cell { ram with f := 0x80 } (ram.sp - 2) = .next (0, 0xFFFE) := ⟨by decide, by decide, rfl, rfl⟩

theorem witness_ReturnsPopPc :
    condHolds { ram with f := 0x10 } .c = true ∧ condHolds { ram with f := 0x10 } .nc = false ∧
    State.cell { ram with f := 0x10 } ram.sp = .next (0, 0) ∧
    State.cell { ram with f := 0x10 } (ram.sp + 1) = .next (0, 1) := ⟨by decide, by decide, rfl, rfl⟩

theorem witness_NopHaltAndImeInstructions : ram.ime = true ∧ ({ ram with ime := false } : State).ime = false := by decide

theorem witness_StopTakesStopLenBytes :
    (memRead { flat 1 [(0, 0x10)] with params := ⟨.preserve, .one⟩ } 0 = .next 0x10) ∧
    (memRead (flat 2 [(0, 0x10), (1, 0xD3)]) 0 = .next 0x10 ∧ memRead (flat 2 [(0, 0x10), (1, 0xD3)]) (0 + 1) = .next 0xD3) ∧
    (memRead (flat 1 [(0, 0x10)]) 0 = .next 0x10 ∧
      memRead (flat 1 [(0, 0x10)]) (0 + 1) = .fault (.invalidAddress 1)) := ⟨rfl, ⟨rfl, rfl⟩, rfl, rfl⟩

theorem witness_MemoryChangesOnlyWhereTheFormStores : ∃ t, exec (instrOf (.push .bc)) ram = .next t ∧
    formStores ram (.push .bc) = [0xFFFF, 0xFFFE] ∧ ram.cell 0 ≠ ram.cell 0xFFFF ∧ ram.cell 0 ≠ ram.cell 0xFFFE :=
  ⟨_, rfl, by decide +kernel, by simp [ram_cell], by simp [ram_cell]⟩

theorem witness_RegistersChangeOnlyWhereTheFormWrites : ∃ t, exec (instrOf (.alu .add .atHL)) ram = .next t ∧
    Reg8.b ∉ formDests (.alu .add .atHL) ∧ formWritesSP (.alu .add .atHL) = false ∧
    formWritesPC (.alu .add .atHL) = false ∧ Flag.c ∉ formFlags (.inc .atHL) := ⟨_, rfl, by decide, rfl, rfl, by decide⟩

/-- A machine in which every field that reset writes holds something else. -/
def used : State :=
  { m11 with a := 1, f := 0xFF, b := 2, c := 3, d := 4, e := 5, h := 6, l := 7, pc := 8, ime := false, halted := true,
             stopped := true }

theorem witness_ResetConstructionAndLaunch : ∃ t, t = hostReset used ∧
    (used.a, used.f, used.sp, used.pc, used.ime, used.halted, used.stopped) =
      (0x01, 0xFF, 0xC001, 0x0008, false, true, true) ∧
    (t.a, t.f, t.sp, t.pc, t.ime, t.halted, t.stopped) = (0x00, 0x00, 0x0000, 0x0000, true, false, false) ∧
    t.stores = [⟨0x8000, [(0, 0xC5)]⟩, ⟨0x2000, []⟩] ∧ t.attached = some (.router mirrored) :=
  ⟨_, rfl, by decide, by decide, by decide, by decide⟩

/-- The two values of F_LOW_POLICY at a launch (10_state.md R23). -/
theorem witness_LaunchUnderEitherPolicy : (launch ram ⟨0, 0xFF, 0, 0, 0, 0, 0, 0, 0, 0, false⟩).f = 0xFF ∧
    (launch (zeroLow []) ⟨0, 0xFF, 0, 0, 0, 0, 0, 0, 0, 0, false⟩).f = 0xF0 := by decide

theorem witness_RunEndsAtFaultStopOrBound : step m11 = .fault (.unmappedAddress 0xBFFF) ∧
    (∃ t, step (flat 2 [(0, 0x10)]) = .next t ∧ t.stopped = true) ∧
    (∃ t, step (flat 2 [(0, 0x76)]) = .next t ∧ t.stopped = false ∧ t.halted = true) :=
  ⟨rfl, ⟨_, rfl, rfl⟩, _, rfl, rfl, rfl⟩

end Sys2Proof.Tests
end

/-! Statements about the state of the core (spec/10_state.md): registers, pairs and flags, what a form's meaning may
change, and what every step keeps. -/

namespace Sys2Proof.Machine

/-! ## Registers, pairs and flags -/

/-- A register write is seen by a read of the same register and of no other (10_state.md R20). -/
theorem readReg_writeReg (s : State) (r q : Reg8) (v : Byte) :
    readReg (writeReg s r v) q = if q = r then v else readReg s q := by
  cases r <;> cases q <;> rfl

/-- A data register that is no half of the pair written keeps its value (R21). -/
theorem readReg_writePair_of_notMem {s : State} {rr : Pair} {v : Word} {r : Reg8} (hr : r ∉ pairHalves rr) :
    readReg (writePair s rr v) r = readReg s r := by
  have two {p q : Reg8} (h : r ∉ [p, q]) : readReg (writeReg (writeReg s p (hi v)) q (lo v)) r = readReg s r := by
    simp only [List.mem_cons, List.not_mem_nil, or_false, not_or] at h
    rw [readReg_writeReg, if_neg h.2, readReg_writeReg, if_neg h.1]
  cases rr with
  | bc | de | hl => exact two hr
  | sp => cases r <;> rfl

/-- A pair written is read back whole (R21). -/
theorem readPair_writePair (s : State) (rr : Pair) (v : Word) : readPair (writePair s rr v) rr = v := by
  cases rr with
  | bc | de | hl => exact join_hi_lo v
  | sp => rfl

/-- Clearing the low four bits of a word clears those of its low byte. -/
theorem join_hi_lo_and_F0 (v : Word) : join (hi v) (lo v &&& 0xF0) = v &&& 0xFFF0 := by
  calc join (hi v) (lo v &&& 0xF0)
    _ = join (hi v &&& 0xFF) (lo v &&& 0xF0) := by
      rw [show (0xFF : Byte) = BitVec.allOnes 8 from rfl, BitVec.and_allOnes]
    _ = join (hi v) (lo v) &&& 0xFFF0 := BitVec.and_append.symm
    _ = v &&& 0xFFF0 := by rw [join_hi_lo]

/-- A whole-byte write of F leaves bits 3:0 zero under F_LOW_POLICY = Zero (R23). -/
theorem fWritten_zero_and_low (v : Byte) : fWritten .zero v &&& 0x0F = 0 := by
  calc v &&& 0xF0 &&& 0x0F
    _ = v &&& (0xF0 &&& 0x0F) := BitVec.and_assoc ..
    _ = 0 := BitVec.and_zero

theorem Flag.pos_lt (k : Flag) : k.pos < 8 := by cases k <;> decide

/-- Bit `j` of F after a flag write: the flag's own bit holds the value written, every other bit what it held (R24). -/
theorem getLsbD_setFlag (f : Byte) (k : Flag) (b : Bool) {j : Nat} (hj : j < 8) :
    (setFlag f k b).getLsbD j = if j = k.pos then b else f.getLsbD j := by
  have mask : (1#8 <<< k.pos).getLsbD j = decide (k.pos = j) := by
    rw [← BitVec.twoPow_eq, BitVec.getLsbD_twoPow]
    simp [k.pos_lt]
  cases b with
  | true =>
    simp only [setFlag, if_true, BitVec.getLsbD_or, mask]
    split <;> simp [*, eq_comm]
  | false =>
    simp only [setFlag, Bool.false_eq_true, if_false, BitVec.getLsbD_and, BitVec.getLsbD_not, mask]
    split <;> simp [*, eq_comm]

/-- Settles O57: one law per kind of register write, and `join_hi_lo` for the words read back. -/
theorem registerFileAndPairViews : Obligations.RegisterFileAndPairViews := by
  refine ⟨readReg_writeReg, fun s => ⟨rfl, rfl, rfl, rfl⟩, readPair_writePair, fun s v => ⟨rfl, rfl, rfl, rfl⟩,
    fun s v => ?_⟩
  simp only [writeStackPair, readStackPair, State.af, writeF_a, writeF_f, fWritten]
  cases s.params.fLow with
  | preserve => exact join_hi_lo v
  | zero => exact join_hi_lo_and_F0 v

/-- Settles O58, by `getLsbD_setFlag`; the positions are the model's `Flag.pos`. -/
theorem flagWritesChangeOneBit : Obligations.FlagWritesChangeOneBit := by
  refine ⟨fun s => ⟨rfl, rfl, rfl, rfl⟩, fun f k b j hj => getLsbD_setFlag f k b hj, fun s k => ?_⟩
  cases h : s.flag k <;> simp [hostFlag, h]

/-! ## What a form's meaning may change

`FormFrame φ s t` is reflexive and transitive, so the frame of a meaning is put together from one rule per update of the
state it makes. -/

/-- `t` differs from `s` only in memory and in the registers, flags and state bits that the form may write. -/
structure FormFrame (φ : Form) (s t : State) : Prop where
  regs : ∀ r, r ∉ formDests φ → readReg t r = readReg s r
  sp : formWritesSP φ = false → t.sp = s.sp
  pc : formWritesPC φ = false → t.pc = s.pc
  flags : ∀ k, k ∉ formFlags φ → t.flag k = s.flag k
  lowF : φ ≠ .pop .af → t.f &&& 0x0F = s.f &&& 0x0F
  ime : φ ≠ .di → φ ≠ .ei → φ ≠ .reti → t.ime = s.ime
  halted : φ ≠ .halt → t.halted = s.halted
  stopped : φ ≠ .stop → t.stopped = s.stopped
  attached : t.attached = s.attached
  params : t.params = s.params

namespace FormFrame

variable {φ : Form} {s t u : State}

theorem refl : FormFrame φ s s := by constructor <;> intros <;> rfl

theorem trans (h : FormFrame φ s t) (h' : FormFrame φ t u) : FormFrame φ s u where
  regs r hr := (h'.regs r hr).trans (h.regs r hr)
  sp hp := (h'.sp hp).trans (h.sp hp)
  pc hp := (h'.pc hp).trans (h.pc hp)
  flags k hk := (h'.flags k hk).trans (h.flags k hk)
  lowF hp := (h'.lowF hp).trans (h.lowF hp)
  ime hd he hr := (h'.ime hd he hr).trans (h.ime hd he hr)
  halted hp := (h'.halted hp).trans (h.halted hp)
  stopped hp := (h'.stopped hp).trans (h.stopped hp)
  attached := h'.attached.trans h.attached
  params := h'.params.trans h.params

/-- A change of memory and of fields that are no data register, each of which the form may write. -/
theorem setFields {f : Byte} {sp pc : Word} {ime halted stopped : Bool} {stores : List FlatStore}
    (hflags : ∀ k, k ∉ formFlags φ → flagOf f k = s.flag k := by intros; rfl)
    (hlowF : φ ≠ .pop .af → f &&& 0x0F = s.f &&& 0x0F := by intros; rfl)
    (hsp : formWritesSP φ = false → sp = s.sp := by intros; rfl)
    (hpc : formWritesPC φ = false → pc = s.pc := by intros; rfl)
    (hime : φ ≠ .di → φ ≠ .ei → φ ≠ .reti → ime = s.ime := by intros; rfl)
    (hhalted : φ ≠ .halt → halted = s.halted := by intros; rfl)
    (hstopped : φ ≠ .stop → stopped = s.stopped := by intros; rfl) :
    FormFrame φ s { s with f, sp, pc, ime, halted, stopped, stores } where
  regs r _ := by cases r <;> rfl
  sp := hsp
  pc := hpc
  flags := hflags
  lowF := hlowF
  ime := hime
  halted := hhalted
  stopped := hstopped
  attached := rfl
  params := rfl

theorem memWrite {a : Word} {v : Byte} (h : memWrite s a v = .next t) : FormFrame φ s t := by
  obtain ⟨c, -, rfl⟩ := memWrite_next_iff.mp h
  exact setFields

theorem writeReg {r : Reg8} {v : Byte} (hr : r ∈ formDests φ := by simp [formDests]) :
    FormFrame φ s (writeReg s r v) := by
  constructor <;> intros
  case regs q hq => rw [readReg_writeReg, if_neg (ne_of_mem_of_not_mem hr hq).symm]
  all_goals simp [State.flag]

theorem writePair {rr : Pair} {v : Word}
    (hr : pairHalves rr ⊆ formDests φ := by simp [formDests, pairHalves, stackPairHalves])
    (hsp : rr = .sp → formWritesSP φ = true := by simp [formWritesSP]) : FormFrame φ s (writePair s rr v) := by
  constructor <;> intros
  case regs q hq => exact readReg_writePair_of_notMem fun hm => hq (hr hm)
  case sp hs => cases rr <;> simp_all
  all_goals simp [State.flag]

theorem writeT8 {x : Slot} {v : Byte} (h : writeT8 s x v = .next t)
    (hx : slotRegs x ⊆ formDests φ := by simp [formDests]) : FormFrame φ s t := by
  cases x with
  | reg r => cases h; exact writeReg (hx (by simp [slotRegs]))
  | atHL => exact memWrite h

theorem setA {v : Byte} (h : .a ∈ formDests φ := by simp [formDests]) : FormFrame φ s { s with a := v } :=
  writeReg (r := .a) h

theorem setSP {w : Word} (h : formWritesSP φ = true := by rfl) : FormFrame φ s { s with sp := w } :=
  setFields (hsp := fun hsp => by simp [h] at hsp)

theorem setPC {w : Word} (h : formWritesPC φ = true := by rfl) : FormFrame φ s { s with pc := w } :=
  setFields (hpc := fun hpc => by simp [h] at hpc)

theorem setIme {b : Bool} (h : φ = .di ∨ φ = .ei ∨ φ = .reti := by simp) : FormFrame φ s { s with ime := b } :=
  setFields (hime := fun hdi hei hreti => by simp [hdi, hei, hreti] at h)

theorem setHalted {b : Bool} : FormFrame .halt s { s with halted := b } :=
  setFields (hhalted := fun h => absurd rfl h)

theorem setStopped {b : Bool} : FormFrame .stop s { s with stopped := b } :=
  setFields (hstopped := fun h => absurd rfl h)

/-- A flag string may write the columns of the form's own flag string (00_scope.md R11). -/
theorem writeFlags {z n h c : Option Bool}
    (hz : z = none ∨ .z ∈ formFlags φ := by simp [formFlags]) (hn : n = none ∨ .n ∈ formFlags φ := by simp [formFlags])
    (hh : h = none ∨ .h ∈ formFlags φ := by simp [formFlags]) (hc : c = none ∨ .c ∈ formFlags φ := by simp [formFlags]) :
    FormFrame φ s { s with f := writeFlags s.f z n h c } := by
  refine setFields (hlowF := fun _ => writeFlags_and_low ..) (hflags := fun k hk => ?_)
  rw [flagOf_writeFlags]
  cases k <;> simp_all [State.flag]

theorem push16 {v : Word} (h : push16 s v = .next t) (hsp : formWritesSP φ = true := by rfl) : FormFrame φ s t := by
  obtain ⟨u1, h1, h⟩ := andThen_next_iff.mp h
  obtain ⟨u2, h2, h⟩ := andThen_next_iff.mp h
  cases h
  exact ((memWrite h1).trans (memWrite h2)).trans (setSP hsp)

theorem pop16 {r : Word × State} (h : pop16 s = .next r) (hsp : formWritesSP φ = true := by rfl) :
    FormFrame φ s r.2 := by
  obtain ⟨c1, c2, -, -, rfl⟩ := pop16_next_iff.mp h
  exact setSP hsp

theorem moveIndirect {i : Indirect} (hi : indirectRegs i ⊆ formDests φ := by simp [formDests]) :
    FormFrame φ s (moveIndirect s i) := by
  cases i with
  | bc | de => exact refl
  | hlInc | hlDec => exact writePair (rr := .hl) hi

theorem aluState {op : AluOp} {v : Byte} (hop : op ≠ .cp → .a ∈ formDests φ) (hf : ∀ k, k ∈ formFlags φ) :
    FormFrame φ s (aluState op s v) := by
  have written {u : State} {z n h c : Option Bool} : FormFrame φ u { u with f := Machine.writeFlags u.f z n h c } :=
    writeFlags (.inr (hf _)) (.inr (hf _)) (.inr (hf _)) (.inr (hf _))
  by_cases h : op = .cp
  · simp only [Machine.aluState, h, if_true]
    exact written
  · simp only [Machine.aluState, h, if_false]
    exact (setA (hop h)).trans written

theorem call {a : Word} (h : call a s = .next t) (hsp : formWritesSP φ = true := by rfl)
    (hpc : formWritesPC φ = true := by rfl) : FormFrame φ s t := by
  obtain ⟨u, hu, h⟩ := andThen_next_iff.mp h
  cases h
  exact (push16 hu hsp).trans (setPC hpc)

theorem ret (h : ret s = .next t) (hsp : formWritesSP φ = true := by rfl)
    (hpc : formWritesPC φ = true := by rfl) : FormFrame φ s t := by
  obtain ⟨r, hr, h⟩ := andThen_next_iff.mp h
  cases h
  exact (pop16 hr hsp).trans (setPC hpc)

theorem popPair {rr : StackPair} (h : popPair rr s = .next t) : FormFrame (.pop rr) s t := by
  obtain ⟨r, hr, h⟩ := andThen_next_iff.mp h
  cases h
  refine (pop16 hr).trans ?_
  cases rr with
  | bc => exact writePair (rr := .bc)
  | de => exact writePair (rr := .de)
  | hl => exact writePair (rr := .hl)
  | af =>
    refine (setA (by simp [formDests, stackPairHalves])).trans
      (setFields (hlowF := fun h => absurd rfl h) (hflags := fun k hk => ?_))
    cases k <;> simp [formFlags] at hk

end FormFrame

/-- A conditional transfer is taken where its condition holds, and elsewhere changes nothing (43_control.md R222, R225,
R227, R229). -/
theorem ite_condHolds_next {cc : Cond} {k : State → Out State} {s t : State}
    (h : (if condHolds s cc then k s else .next s) = .next t) :
    condHolds s cc = true ∧ k s = .next t ∨ condHolds s cc = false ∧ t = s := by
  split at h
  next hcc => exact .inl ⟨hcc, h⟩
  next hcc => cases h; exact .inr ⟨Bool.eq_false_iff.mpr hcc, rfl⟩

/-- A form's meaning changes no register, flag or state bit but those the form writes. -/
theorem formMeaning_frame {φ : Form} {s t : State} (h : formMeaning φ s = .next t) : FormFrame φ s t := by
  cases φ with
  | alu _ _ =>
    obtain ⟨v, -, h⟩ := andThen_next_iff.mp h
    cases h
    exact .aluState (by simp +contextual [formDests]) (fun k => by cases k <;> simp [formFlags])
  | aluImm _ _ =>
    cases h
    exact .aluState (by simp +contextual [formDests]) (fun k => by cases k <;> simp [formFlags])
  | inc _ | dec _ | shift _ _ =>
    obtain ⟨v, -, h⟩ := andThen_next_iff.mp h
    obtain ⟨u, hu, h⟩ := andThen_next_iff.mp h
    cases h
    exact (FormFrame.writeT8 hu).trans .writeFlags
  | res _ _ | set _ _ | ldReg _ _ =>
    obtain ⟨v, -, h⟩ := andThen_next_iff.mp h
    exact .writeT8 h (by simp [formDests, slotRegs])
  | ldStore _ => exact .memWrite h
  | ldImm _ _ => exact .writeT8 h
  | bit _ _ =>
    obtain ⟨v, -, h⟩ := andThen_next_iff.mp h
    cases h
    exact .writeFlags
  | daa | cpl => cases h; exact .trans .setA .writeFlags
  | rotA op => cases op <;> cases h <;> exact .trans .setA .writeFlags
  | scf | ccf => cases h; exact .writeFlags
  | addHL _ | ldHLSP _ => cases h; exact .trans (.writePair (rr := .hl)) .writeFlags
  | addSP _ => cases h; exact .trans (.setSP (w := (addSPe8 s.sp _).1)) .writeFlags
  | incPair _ | decPair _ | ldPair _ _ =>
    cases h
    exact .writePair (by simp [formDests]) (by simp [formWritesSP])
  | ldSPHL => cases h; exact .setSP
  | ldToInd _ =>
    obtain ⟨u, hu, h⟩ := andThen_next_iff.mp h
    cases h
    exact (FormFrame.memWrite hu).trans .moveIndirect
  | ldFromInd _ =>
    obtain ⟨v, -, h⟩ := andThen_next_iff.mp h
    cases h
    exact .trans .setA .moveIndirect
  | ldhStore _ | ldCStore | ldAbsStore _ => exact .memWrite h
  | ldhLoad _ | ldCLoad | ldAbsLoad _ =>
    obtain ⟨v, -, h⟩ := andThen_next_iff.mp h
    cases h
    exact .setA
  | ldAbsSP _ =>
    obtain ⟨u, hu, h⟩ := andThen_next_iff.mp h
    exact (FormFrame.memWrite hu).trans (.memWrite h)
  | push _ => exact .push16 h
  | pop _ => exact .popPair h
  | jp _ | jpHL | jr _ => cases h; exact .setPC
  | jpIf _ _ | jrIf _ _ =>
    obtain ⟨-, h⟩ | ⟨-, rfl⟩ := ite_condHolds_next h
    · cases h; exact .setPC
    · exact .refl
  | call _ | rst _ => exact .call h
  | callIf _ _ =>
    obtain ⟨-, h⟩ | ⟨-, rfl⟩ := ite_condHolds_next h
    · exact .call h
    · exact .refl
  | ret => exact .ret h
  | retIf _ =>
    obtain ⟨-, h⟩ | ⟨-, rfl⟩ := ite_condHolds_next h
    · exact .ret h
    · exact .refl
  | reti =>
    obtain ⟨u, hu, h⟩ := andThen_next_iff.mp h
    cases h
    exact (FormFrame.ret hu).trans .setIme
  | nop => cases h; exact .refl
  | halt => cases h; exact .trans (.setHalted (b := true)) .setPC
  | stop => cases h; exact .setStopped
  | di | ei => cases h; exact .setIme
  | unused _ => cases h

/-- Settles O56: the form's frame, whose fields are the clauses of the statement. -/
theorem registersChangeOnlyWhereTheFormWrites : Obligations.RegistersChangeOnlyWhereTheFormWrites := by
  intro φ s t h
  rw [exec_instrOf] at h
  obtain ⟨hregs, hsp, hpc, hflags, hlowF, hime, hhalted, hstopped, hattached, hparams⟩ := formMeaning_frame h
  exact ⟨hregs, hsp, hpc, hflags, hlowF, hime, hhalted, hstopped, hattached, hparams⟩

/-! ## Which cells a form's meaning may write -/

theorem call_wrote {s t : State} {a : Word} (h : call a s = .next t) : Wrote s (pushAddrs s) t := by
  obtain ⟨u, hu, h⟩ := andThen_next_iff.mp h
  cases h
  exact .regs (push16_wrote hu) rfl rfl rfl

theorem ret_wrote {s t : State} (h : ret s = .next t) : Wrote s [] t := by
  obtain ⟨r, hr, h⟩ := andThen_next_iff.mp h
  cases h
  exact .regs (pop16_wrote hr) rfl rfl rfl

/-- A form's meaning writes memory at the addresses `formStores` lists and at no other. -/
theorem formMeaning_wrote {φ : Form} {s t : State} (h : formMeaning φ s = .next t) : Wrote s (formStores s φ) t := by
  cases φ with
  | inc _ | dec _ | shift _ _ =>
    obtain ⟨v, -, h⟩ := andThen_next_iff.mp h
    obtain ⟨u, hu, h⟩ := andThen_next_iff.mp h
    cases h
    exact .regs (writeT8_wrote hu) rfl rfl rfl
  | res _ _ | set _ _ | ldReg _ _ =>
    obtain ⟨v, -, h⟩ := andThen_next_iff.mp h
    exact writeT8_wrote h
  | ldImm _ _ => exact writeT8_wrote h
  | ldStore _ | ldhStore _ | ldCStore | ldAbsStore _ => exact memWrite_wrote h
  | ldToInd _ =>
    obtain ⟨u, hu, h⟩ := andThen_next_iff.mp h
    cases h
    exact .regs (memWrite_wrote hu) (by simp) (by simp) (by simp)
  | ldAbsSP _ => exact memWrite16_wrote h
  | push _ => exact push16_wrote h
  | pop _ =>
    obtain ⟨r, hr, h⟩ := andThen_next_iff.mp h
    cases h
    exact .regs (pop16_wrote hr) (by simp) (by simp) (by simp)
  | call _ | rst _ => exact call_wrote h
  | callIf _ _ =>
    obtain ⟨hcc, h⟩ | ⟨hcc, rfl⟩ := ite_condHolds_next h
    · rw [formStores, if_pos hcc]; exact call_wrote h
    · rw [formStores, if_neg (by simp [hcc])]; exact .refl
  | ret => exact ret_wrote h
  | retIf _ =>
    obtain ⟨-, h⟩ | ⟨-, rfl⟩ := ite_condHolds_next h
    · exact ret_wrote h
    · exact .refl
  | reti =>
    obtain ⟨u, hu, h⟩ := andThen_next_iff.mp h
    cases h
    exact .regs (ret_wrote hu) rfl rfl rfl
  | jpIf _ _ | jrIf _ _ =>
    obtain ⟨-, h⟩ | ⟨-, rfl⟩ := ite_condHolds_next h
    · cases h; exact .of_regs rfl rfl rfl
    · exact .refl
  | alu _ _ | bit _ _ | ldFromInd _ | ldhLoad _ | ldCLoad | ldAbsLoad _ =>
    obtain ⟨v, -, h⟩ := andThen_next_iff.mp h
    cases h
    exact .of_regs (by simp [aluState]) (by simp [aluState]) (by simp [aluState])
  | rotA op => cases op <;> cases h <;> exact .of_regs rfl rfl rfl
  | aluImm _ _ | daa | cpl | scf | ccf | addHL _ | ldHLSP _ | addSP _ | ldSPHL | jp _ | jpHL | jr _ | nop
  | halt | stop | di | ei => cases h; exact .of_regs rfl rfl rfl
  | incPair _ | decPair _ | ldPair _ _ => cases h; exact .of_regs (by simp) (by simp) (by simp)
  | unused _ => cases h

/-! ## What every step keeps -/

/-- What is fetched is the row of a form. -/
theorem fetchOperands_next_form {shape : Shape} {s : State} {r : Instr × State}
    (h : fetchOperands shape s = .next r) : ∃ φ, r.1 = instrOf φ := by
  cases shape with
  | plain φ => cases h; exact ⟨φ, rfl⟩
  | imm8 _ | imm16 _ | cbPage =>
    obtain ⟨v, -, h⟩ := andThen_next_iff.mp h
    cases h
    exact ⟨_, rfl⟩
  | stop =>
    rw [fetchOperands] at h
    split at h
    · cases h; exact ⟨.stop, rfl⟩
    · obtain ⟨v, -, h⟩ := andThen_next_iff.mp h
      cases h
      exact ⟨.stop, rfl⟩

/-- A step that answers a next state runs the meaning of a form on the state with PC after the fetch (30_encoding.md
R89). -/
theorem step_next_form {s t : State} (h : step s = .next t) : ∃ φ p, formMeaning φ { s with pc := p } = .next t := by
  obtain ⟨⟨i, u⟩, hfetch, hexec⟩ := andThen_next_iff.mp h
  obtain ⟨p, rfl⟩ := fetchInstr_next hfetch
  obtain ⟨r, -, hops⟩ := andThen_next_iff.mp hfetch
  obtain ⟨φ, rfl⟩ := fetchOperands_next_form hops
  exact ⟨φ, p, exec_instrOf φ _ ▸ hexec⟩

/-- Settles O16: a step's writes keep the configuration (`Wrote.config`). -/
theorem stepKeepsTheConfiguration : Obligations.StepKeepsTheConfiguration := by
  intro s t h
  obtain ⟨φ, p, h⟩ := step_next_form h
  obtain ⟨hsizes, hattached, hparams⟩ := (formMeaning_wrote h).config
  exact ⟨hattached, hsizes, hparams⟩

theorem State.fLowOk_iff {s : State} : s.fLowOk = true ↔ (s.params.fLow = .zero → s.f &&& 0x0F = 0) := by
  unfold State.fLowOk
  split <;> simp_all

/-- POP AF leaves in F what a whole-byte write leaves there (10_state.md R23, 44_loads_stack.md R274). -/
theorem popPair_af_f {s t : State} (h : popPair .af s = .next t) : ∃ v, t.f = fWritten t.params.fLow v := by
  obtain ⟨r, -, h⟩ := andThen_next_iff.mp h
  cases h
  exact ⟨_, rfl⟩

/-- A form's meaning keeps bits 3:0 of F zero under F_LOW_POLICY = Zero: POP AF clears them, every other form leaves them
alone (R23). -/
theorem formMeaning_fLowOk {φ : Form} {s t : State} (hs : s.fLowOk = true) (h : formMeaning φ s = .next t) :
    t.fLowOk = true := by
  have frame := formMeaning_frame h
  rw [State.fLowOk_iff] at hs ⊢
  intro hzero
  by_cases hpop : φ = .pop .af
  · subst hpop
    obtain ⟨v, hv⟩ := popPair_af_f h
    rw [hv, hzero, fWritten_zero_and_low]
  · rw [frame.lowF hpop]
    exact hs (frame.params ▸ hzero)

/-- A configuration of the same shape over as many stores is well formed. -/
theorem State.attachedOk_of_config {s t : State} (hsizes : t.sizes = s.sizes) (ha : t.attached = s.attached)
    (hs : s.attachedOk = true) : t.attachedOk = true := by
  have hlen : t.stores.length = s.stores.length := by simpa [State.sizes] using congrArg List.length hsizes
  rw [State.attachedOk, ha, hlen]
  exact hs

/-- A form's meaning keeps the machine well formed. -/
theorem formMeaning_wf {φ : Form} {s t : State} (hs : s.wf = true) (h : formMeaning φ s = .next t) : t.wf = true := by
  simp only [State.wf, Bool.and_eq_true] at hs ⊢
  obtain ⟨⟨hstores, hattached⟩, hlow⟩ := hs
  have wrote := formMeaning_wrote h
  obtain ⟨hsizes, ha, -⟩ := wrote.config
  exact ⟨⟨wrote.stores_wf hstores, State.attachedOk_of_config hsizes ha hattached⟩, formMeaning_fLowOk hlow h⟩

/-- Settles O17: the fetch moves PC only, which the invariant does not mention, and every form's meaning keeps it. -/
theorem stepKeepsMachineWellFormed : Obligations.StepKeepsMachineWellFormed := by
  intro s t hs h
  obtain ⟨φ, p, h⟩ := step_next_form h
  have hfetched : State.wf { s with pc := p } = true := hs
  exact formMeaning_wf hfetched h

end Sys2Proof.Machine

/-! Statements about memory (spec/20_memory.md): the flat store, the router and `map`, aliased cells, and what a form's
meaning may change in memory. -/

namespace Sys2Proof.Machine

/-! ## Which bytes of memory change -/

/-- An address whose cell none of the written addresses names reads as before. -/
theorem Wrote.memRead {s t : State} {l : List Word} (h : Wrote s l t) {addr : Word}
    (hne : ∀ a ∈ l, s.cell addr ≠ s.cell a) : memRead t addr = memRead s addr := by
  simp only [Machine.memRead, h.cell]
  cases hc : s.cell addr with
  | next c => rw [andThen_next, andThen_next, h.byteAt fun a ha he => hne a ha (hc.trans he.symm)]
  | fault | refused => rfl

/-- Settles O55: a form's meaning writes the cells of `formStores` and no other (`formMeaning_wrote`). -/
theorem memoryChangesOnlyWhereTheFormStores : Obligations.MemoryChangesOnlyWhereTheFormStores := by
  intro φ s t h
  rw [exec_instrOf] at h
  have wrote := formMeaning_wrote h
  exact ⟨fun _ => wrote.memRead, fun _ => wrote.byteAt⟩

/-! ## The flat store -/

theorem FlatStore.isValid_iff {st : FlatStore} {a : Nat} : st.isValid a = true ↔ a < st.size := by
  simp [FlatStore.isValid]

/-- What a write of a flat store answers (20_memory.md R50, R51). -/
theorem FlatStore.write_eq (st : FlatStore) (a : Nat) (v : Byte) :
    st.write a v = if a < st.size then .next { st with cells := st.cells.put a v } else .fault (.invalidAddress a) := by
  simp [FlatStore.write, FlatStore.isValid, raise]

/-- A read of a flat store after a write within its bounds. -/
theorem FlatStore.read_put {st : FlatStore} {a : Nat} {v : Byte} (h : st.wf = true) (ha : a < st.size) (b : Nat) :
    FlatStore.read { st with cells := st.cells.put a v } b = if b = a then .next v else st.read b := by
  simp only [FlatStore.wf, Bool.and_eq_true] at h
  obtain ⟨⟨-, hcells⟩, -⟩ := h
  rw [FlatStore.read_eq, FlatStore.read_eq, Memory.get_put _ _ _ _ hcells]
  by_cases hb : b = a
  · simp [hb, ha]
  · simp [hb]

/-- Settles O19: inside the bounds by `put_wf` and `read_put`, outside them by the other branch of `read_eq` and
`write_eq`. -/
theorem flatStoreReadsLastWriteWithinBounds : Obligations.FlatStoreReadsLastWriteWithinBounds := by
  intro st a v hwf
  constructor
  · intro ha
    exact ⟨FlatStore.isValid_iff.mpr ha, st.cells.get a, { st with cells := st.cells.put a v },
      by rw [FlatStore.read_eq, if_pos ha], by rw [FlatStore.write_eq, if_pos ha], FlatStore.put_wf hwf ha, rfl,
      FlatStore.read_put hwf ha⟩
  · intro ha
    have hout : ¬ a < st.size := by omega
    exact ⟨Bool.eq_false_iff.mpr (mt FlatStore.isValid_iff.mp hout), by rw [FlatStore.read_eq, if_neg hout],
      by rw [FlatStore.write_eq, if_neg hout]⟩

/-! ## The router -/

theorem AddrRange.contains_iff {r : AddrRange} {a : Nat} : r.contains a = true ↔ r.lo ≤ a ∧ a ≤ r.hi := by
  simp [AddrRange.contains]

theorem AddrRange.overlaps_iff {r r' : AddrRange} : r.overlaps r' = true ↔ r.lo ≤ r'.hi ∧ r'.lo ≤ r.hi := by
  simp [AddrRange.overlaps]

/-- Two ranges that contain one address overlap. -/
theorem AddrRange.overlaps_of_contains {r r' : AddrRange} {a : Nat} (h : r.contains a = true)
    (h' : r'.contains a = true) : r.overlaps r' = true := by
  rw [AddrRange.contains_iff] at h h'
  rw [AddrRange.overlaps_iff]
  omega

theorem MapList.clearOf_iff {l : AddrRange} {es : MapList} :
    es.clearOf l = true ↔ ∀ e ∈ entriesOf es, l.overlaps e.2.2 = false := by
  fun_induction entriesOf es with
  | case1 => simp [MapList.clearOf]
  | case2 _ _ _ _ ih => simp [MapList.clearOf, ih]

theorem routerIsValid_iff {a : Nat} {es : MapList} :
    routerIsValid a es = true ↔ ∃ e ∈ entriesOf es, e.2.2.contains a = true := by
  fun_induction entriesOf es with
  | case1 => simp [routerIsValid]
  | case2 _ _ _ _ ih => simp [routerIsValid, ih]

theorem find?_contains_cons (a : Nat) (b : Port) (t l : AddrRange) (rest : List (Port × AddrRange × AddrRange)) :
    ((b, t, l) :: rest).find? (fun e => e.2.2.contains a) =
      if l.contains a then some (b, t, l) else rest.find? (fun e => e.2.2.contains a) := by
  rw [List.find?_cons]
  cases l.contains a <;> rfl

/-- `Lookup` delegates to the first entry whose local range contains the address (20_memory.md R55). -/
theorem lookup_of_find?_some {a : Nat} {es : MapList} {b : Port} {t l : AddrRange}
    (h : (entriesOf es).find? (fun e => e.2.2.contains a) = some (b, t, l)) :
    lookup a es = locate (t.lo + (a - l.lo)) b := by
  fun_induction entriesOf es with
  | case1 => cases h
  | case2 b' t' l' rest ih =>
    rw [find?_contains_cons] at h
    rw [lookup_cons]
    split at h
    next hl => cases h; rw [if_pos hl]
    next hl => rw [if_neg hl, ih h]

/-- `Lookup` faults where no local range contains the address (R55, R56). -/
theorem lookup_of_find?_none {a : Nat} {es : MapList}
    (h : (entriesOf es).find? (fun e => e.2.2.contains a) = none) : lookup a es = .fault (.unmappedAddress a) := by
  fun_induction entriesOf es with
  | case1 => exact lookup_nil a
  | case2 b t l rest ih =>
    rw [find?_contains_cons] at h
    rw [lookup_cons]
    split at h
    next => cases h
    next hl => rw [if_neg hl, ih h]

/-- Where `map` accepted the entries, any entry that contains an address is the first that does: another one before it
would overlap it. -/
theorem MapList.find?_contains_of_wf {n : Nat} {es : MapList} {a : Nat} {e : Port × AddrRange × AddrRange}
    (hwf : es.wf n = true) (he : e ∈ entriesOf es) (ha : e.2.2.contains a = true) :
    (entriesOf es).find? (fun e => e.2.2.contains a) = some e := by
  fun_induction entriesOf es with
  | case1 => cases he
  | case2 b t l rest ih =>
    simp only [MapList.wf, Bool.and_eq_true] at hwf
    obtain ⟨⟨⟨-, hclear⟩, -⟩, hrest⟩ := hwf
    obtain rfl | he := List.mem_cons.mp he
    · exact List.find?_cons_of_pos ha
    · have hl : ¬ l.contains a = true := fun hl =>
        Bool.eq_false_iff.mp (MapList.clearOf_iff.mp hclear e he) (AddrRange.overlaps_of_contains hl ha)
      rw [find?_contains_cons, if_neg hl, ih hrest he]

/-- Which cell an access reaches depends on the object only through where it delegates the address to (R55, R57). -/
theorem cellIn_of_locate_eq {p q : Port} {a b : Nat} (h : locate a p = locate b q) (stores : List FlatStore) :
    cellIn stores p a = cellIn stores q b := by
  rw [cellIn, cellIn, h]

/-- Settles O21: the access of a router is its `lookup`, read entry by entry. -/
theorem routerDelegatesByLocalRange : Obligations.RouterDelegatesByLocalRange := by
  refine ⟨fun s es a v => ⟨fun b t l h => ?_, fun h => ?_, ?_⟩, fun n es a b t l => MapList.find?_contains_of_wf⟩
  · have hcell : cellIn s.stores (.router es) a = cellIn s.stores b (t.lo + (a - l.lo)) :=
      cellIn_of_locate_eq ((locate_router a es).trans (lookup_of_find?_some h)) _
    simp only [hostPeek, hostPoke, hcell, and_self]
  · have hcell : cellIn s.stores (.router es) a = .fault (.unmappedAddress a) := by
      rw [cellIn, locate_router, lookup_of_find?_none h, andThen_fault]
    simp only [hostPeek, hostPoke, hcell, andThen_fault, and_self]
  · simp only [← AddrRange.contains_iff]
    exact routerIsValid_iff

/-! ## `map` -/

theorem entriesOf_appendEntry (b : Port) (t l : AddrRange) (es : MapList) :
    entriesOf (appendEntry b t l es) = entriesOf es ++ [(b, t, l)] := by
  fun_induction entriesOf es with
  | case1 => rfl
  | case2 _ _ _ _ ih => rw [appendEntry, entriesOf, ih, List.cons_append]

/-- The ranges pass the test of `map` where they are in order and their sizes agree (20_memory.md R54). -/
theorem mapRanges_wf_iff {t l : AddrRange} : (t.wf && l.wf && t.sameSize l) = true ↔
    ¬ ((t.hi : Int) - t.lo ≠ (l.hi : Int) - l.lo ∨ t.hi < t.lo ∨ l.hi < l.lo) := by
  simp only [AddrRange.wf, AddrRange.sameSize, Bool.and_eq_true, decide_eq_true_eq]
  omega

theorem MapList.clearOf_iff_not_exists {l : AddrRange} {es : MapList} :
    es.clearOf l = true ↔ ¬ ∃ e ∈ entriesOf es, l.lo ≤ e.2.2.hi ∧ e.2.2.lo ≤ l.hi := by
  simp [MapList.clearOf_iff, ← AddrRange.overlaps_iff]

theorem routerMap_of_accepted {es : MapList} {b : Port} {t l : AddrRange}
    (hranges : (t.wf && l.wf && t.sameSize l) = true) (hclear : es.clearOf l = true) :
    routerMap es b t l = .next (appendEntry b t l es) := by
  simp [routerMap, hranges, hclear]

theorem routerMap_of_mismatch {es : MapList} {b : Port} {t l : AddrRange}
    (hranges : ¬ (t.wf && l.wf && t.sameSize l) = true) :
    routerMap es b t l = .fault (.mismatchedRangeSize t l) := by
  simp [routerMap, hranges, raise]

theorem routerMap_of_overlap {es : MapList} {b : Port} {t l : AddrRange}
    (hranges : (t.wf && l.wf && t.sameSize l) = true) (hclear : ¬ es.clearOf l = true) :
    routerMap es b t l = .fault (.overlappingMap l) := by
  simp [routerMap, hranges, hclear, raise]

/-- Settles O22: the two tests of `routerMap` are the statement's, and an accepted entry goes to the end. -/
theorem mapRefusesOrAppends : Obligations.MapRefusesOrAppends := by
  intro es b t l sizesDiffer overlapping
  have hranges : (t.wf && l.wf && t.sameSize l) = true ↔ ¬ sizesDiffer := mapRanges_wf_iff
  have hclear : es.clearOf l = true ↔ ¬ overlapping := MapList.clearOf_iff_not_exists
  have mismatch (hs : sizesDiffer) : routerMap es b t l = .fault (.mismatchedRangeSize t l) :=
    routerMap_of_mismatch fun h => hranges.mp h hs
  refine ⟨fun hs ho => ?_, fun hs _ => mismatch hs, fun hs ho => ?_, fun hs _ => ⟨_, mismatch hs⟩⟩
  · exact ⟨_, routerMap_of_accepted (hranges.mpr hs) (hclear.mpr ho), entriesOf_appendEntry b t l es⟩
  · exact routerMap_of_overlap (hranges.mpr hs) fun h => hclear.mp h ho

/-! ## Aliased cells -/

theorem State.cell_of_attached {s : State} {p : Port} (h : s.attached = some p) (a : Word) :
    s.cell a = cellIn s.stores p a.toNat := by
  simp only [State.cell, h]

theorem State.stores_wf_of_wf {s : State} (h : s.wf = true) : s.stores.all FlatStore.wf = true := by
  simp only [State.wf, Bool.and_eq_true] at h
  obtain ⟨⟨hstores, -⟩, -⟩ := h
  exact hstores

/-- A read of a cell after a write, under whichever addresses (20_memory.md R75). -/
theorem memRead_setByte {s : State} {a b : Word} {c d : CellRef} (v : Byte) (hs : s.wf = true)
    (ha : s.cell a = .next c) (hb : s.cell b = .next d) :
    memRead (s.setByte c v) b = if d = c then .next v else memRead s b := by
  have hb' : (s.setByte c v).cell b = .next d := by rw [State.setByte_cell, hb]
  rw [memRead_of_cell hb', memRead_of_cell hb, State.byteAt_setByte v (State.stores_wf_of_wf hs) ha]
  split <;> rfl

/-- The second write of a push is the low byte's, so it is what a cell under both addresses holds (R66). -/
theorem push16_aliased {s : State} {c : CellRef} (v : Word) (hs : s.wf = true) (h1 : s.cell (s.sp - 1) = .next c)
    (h2 : s.cell (s.sp - 1 - 1) = .next c) : ∃ t, push16 s v = .next t ∧ t.byteAt c = lo v := by
  refine ⟨_, push16_next_iff.mpr ⟨c, c, h1, h2, rfl⟩, ?_⟩
  have hstores := State.setByte_stores_wf (hi v) (State.stores_wf_of_wf hs) h1
  have hcell : (s.setByte c (hi v)).cell (s.sp - 1) = .next c := by rw [State.setByte_cell, h1]
  exact (State.byteAt_setByte (lo v) hstores hcell).trans (if_pos rfl)

/-- Settles O23: the port's accesses are those of the attached object, and the laws of one cell speak of every address
that names it. -/
theorem storeIsSeenThroughEveryAlias : Obligations.StoreIsSeenThroughEveryAlias := by
  refine ⟨fun s p a v hp => ?_, fun s a b v c d hs ha hb => ?_, fun rr s c hs h1 h2 => ?_⟩
  · simp only [memRead, memWrite, hostPeek, hostPoke, State.cell_of_attached hp, and_self]
  · exact ⟨_, memWrite_of_cell ha, by rw [State.setByte_cell, hb], memRead_setByte v hs ha hb⟩
  · have hsp : s.sp - 2 = s.sp - 1 - 1 := by bv_omega
    rw [hsp] at h2
    obtain ⟨t, ht, hlo⟩ := push16_aliased (readStackPair s rr) hs h1 h2
    exact ⟨t, (exec_instrOf (.push rr) s).trans ht, hlo⟩

end Sys2Proof.Machine

/-! Statements about the encoding (spec/30_encoding.md): the decoder and the encoder undo each other, the first byte
decides the length, and a step runs what the bytes at PC decode to. -/

namespace Sys2Proof

open Machine

/-! ## The opcode byte's shape with its operands filled in -/

/-- The form of a shape whose operand byte is `n` or whose operand word is `w` (30_encoding.md R81). -/
def Shape.form (n : Byte) (w : Word) : Shape → Form
  | .plain φ => φ
  | .imm8 mk => mk n
  | .imm16 mk => mk w
  | .cbPage => decodeCB n
  | .stop => .stop

/-- The bytes of a shape after its opcode byte. -/
def Shape.operands (sl : StopLen) (n : Byte) (w : Word) : Shape → List Byte
  | .plain _ => []
  | .imm8 _ => [n]
  | .imm16 _ => [lo w, hi w]
  | .cbPage => [n]
  | .stop =>
    match sl with
    | .one => []
    | .two => [n]

/-- The operand byte the encoder writes: the byte itself, but 00 for the ignored byte of STOP (log 8). -/
def Shape.writtenByte (n : Byte) : Shape → Byte
  | .stop => 0
  | .plain _ | .imm8 _ | .imm16 _ | .cbPage => n

theorem instrLength_eq (sl : StopLen) (op n : Byte) (w : Word) :
    instrLength sl op = ((decodeMain op).operands sl n w).length + 1 := by
  unfold instrLength
  cases decodeMain op with
  | plain | imm8 | imm16 | cbPage => rfl
  | stop => cases sl <;> rfl

theorem instrLength_le (sl : StopLen) (op : Byte) : instrLength sl op ≤ 3 := by
  rw [instrLength_eq sl op 0 0]
  cases decodeMain op with
  | plain | imm8 | imm16 | cbPage => simp [Shape.operands]
  | stop => cases sl <;> simp [Shape.operands]

/-- Everything decoding can answer: the operands of the opcode byte's shape stand at the head of the rest, or there are
too few bytes for them (R91). -/
theorem decode_cons (sl : StopLen) (op : Byte) (bs : List Byte) :
    (∃ n w rest, bs = (decodeMain op).operands sl n w ++ rest ∧
      decode sl (op :: bs) = .ok (instrOf ((decodeMain op).form n w), rest)) ∨
    (bs.length + 1 < instrLength sl op ∧ decode sl (op :: bs) = .error .truncated) := by
  rw [instrLength_eq sl op 0 0]
  unfold decode
  dsimp only
  cases decodeMain op with
  | plain φ => exact .inl ⟨0, 0, bs, rfl, rfl⟩
  | imm8 mk | cbPage =>
    cases bs with
    | nil => exact .inr ⟨by simp [Shape.operands], rfl⟩
    | cons n rest => exact .inl ⟨n, 0, rest, rfl, rfl⟩
  | imm16 mk =>
    match bs with
    | [] | [_] => exact .inr ⟨by simp [Shape.operands], rfl⟩
    | l :: h :: rest => exact .inl ⟨0, join h l, rest, by simp [Shape.operands], rfl⟩
  | stop =>
    cases sl with
    | one => exact .inl ⟨0, 0, bs, rfl, rfl⟩
    | two =>
      cases bs with
      | nil => exact .inr ⟨by simp [Shape.operands], rfl⟩
      | cons n rest => exact .inl ⟨n, 0, rest, rfl, rfl⟩

/-- What decodes is an opcode byte with the operands of its shape. -/
theorem exists_operands_of_decode {sl : StopLen} {bs rest : List Byte} {i : Instr}
    (h : decode sl bs = .ok (i, rest)) :
    ∃ op n w, bs = op :: ((decodeMain op).operands sl n w ++ rest) ∧ i = instrOf ((decodeMain op).form n w) := by
  cases bs with
  | nil => cases h
  | cons op bs =>
    obtain ⟨n, w, rest', rfl, hd⟩ | ⟨-, hd⟩ := decode_cons sl op bs
    · cases hd.symm.trans h
      exact ⟨op, n, w, rfl, rfl⟩
    · cases hd.symm.trans h

/-! ## The codes of the operand tables (R83, R87) -/

theorem code_slotOf {i : Nat} (h : i < 8) : (slotOf i).code = i := by interval_cases i <;> rfl

theorem code_shiftOpOf {k : Nat} (h : k < 8) : (shiftOpOf k).code = k := by interval_cases k <;> rfl

theorem code_octOf {y : Nat} (h : y < 8) : (octOf y).code = y := by interval_cases y <;> rfl

/-- A byte put together from its fields (R82). -/
theorem ofNat_fields {op : Byte} {x : Nat} (hx : op.toNat / 64 = x) :
    BitVec.ofNat 8 (64 * x + 8 * (op.toNat / 8 % 8) + op.toNat % 8) = op := by
  apply BitVec.eq_of_toNat_eq
  have := op.isLt
  simp only [BitVec.toNat_ofNat]
  omega

theorem ofNat_fields_zero {op : Byte} (hx : op.toNat / 64 = 0) :
    BitVec.ofNat 8 (8 * (op.toNat / 8 % 8) + op.toNat % 8) = op := by
  simpa using ofNat_fields hx

theorem quadrant_cases (op : Byte) :
    op.toNat / 64 = 0 ∨ op.toNat / 64 = 1 ∨ op.toNat / 64 = 2 ∨ op.toNat / 64 = 3 := by
  have := op.isLt
  omega

/-! ## The encoder by form -/

theorem encode_shift (sl : StopLen) (op : ShiftOp) (t : Slot) :
    encode sl (shiftInstr op t) = [0xCB, BitVec.ofNat 8 (8 * op.code + t.code)] := by
  cases op <;> (cases t with | reg r => cases r <;> rfl | atHL => rfl)

theorem encode_bit (sl : StopLen) (b : Oct) (t : Slot) :
    encode sl (bitInstr b t) = [0xCB, BitVec.ofNat 8 (0x40 + 8 * b.code + t.code)] := by
  cases b <;> (cases t with | reg r => cases r <;> rfl | atHL => rfl)

theorem encode_res (sl : StopLen) (b : Oct) (t : Slot) :
    encode sl (resInstr b t) = [0xCB, BitVec.ofNat 8 (0x80 + 8 * b.code + t.code)] := by
  cases b <;> (cases t with | reg r => cases r <;> rfl | atHL => rfl)

theorem encode_set (sl : StopLen) (b : Oct) (t : Slot) :
    encode sl (setInstr b t) = [0xCB, BitVec.ofNat 8 (0xC0 + 8 * b.code + t.code)] := by
  cases b <;> (cases t with | reg r => cases r <;> rfl | atHL => rfl)

theorem encode_unused (sl : StopLen) (u : Unused) : encode sl (unusedInstr u) = [u.opcode] := by cases u <;> rfl

/-- The encoder writes an opcode byte's instruction as that byte and the operands of its shape. -/
def Encodes (sl : StopLen) (op : Byte) (sh : Shape) : Prop :=
  ∀ n w, encode sl (instrOf (sh.form n w)) = op :: sh.operands sl (sh.writtenByte n) w

theorem encode_decodeCB (sl : StopLen) (op2 : Byte) : encode sl (instrOf (decodeCB op2)) = [0xCB, op2] := by
  have hslot : (slotOf (op2.toNat % 8)).code = op2.toNat % 8 := code_slotOf (by omega)
  have hoct : (octOf (op2.toNat / 8 % 8)).code = op2.toNat / 8 % 8 := code_octOf (by omega)
  have hshift : (shiftOpOf (op2.toNat / 8 % 8)).code = op2.toNat / 8 % 8 := code_shiftOpOf (by omega)
  unfold decodeCB
  obtain h | h | h | h := quadrant_cases op2 <;> simp only [h, instrOf]
  · rw [encode_shift, hshift, hslot, ofNat_fields_zero h]
  · rw [encode_bit, hoct, hslot, ofNat_fields h]
  · rw [encode_res, hoct, hslot, ofNat_fields h]
  · rw [encode_set, hoct, hslot, ofNat_fields h]

theorem encodes_decodeX0 (sl : StopLen) (y z : Oct) :
    Encodes sl (BitVec.ofNat 8 (8 * y.code + z.code)) (decodeX0 y.code z.code) := by
  intro n w
  cases y with
  | o2 =>
    cases z with
    | o0 => cases sl <;> rfl
    | o1 | o2 | o3 | o4 | o5 | o6 | o7 => rfl
  | o0 | o1 | o3 | o4 | o5 | o6 | o7 => cases z <;> rfl

theorem encodes_decodeX1 (sl : StopLen) (y z : Oct) :
    Encodes sl (BitVec.ofNat 8 (0x40 + 8 * y.code + z.code)) (decodeX1 y.code z.code) := by
  intro n w
  cases y <;> cases z <;> rfl

theorem encodes_decodeX2 (sl : StopLen) (y z : Oct) :
    Encodes sl (BitVec.ofNat 8 (0x80 + 8 * y.code + z.code)) (decodeX2 y.code z.code) := by
  intro n w
  cases y <;> cases z <;> rfl

theorem encodes_decodeX3 (sl : StopLen) (y z : Oct) :
    Encodes sl (BitVec.ofNat 8 (0xC0 + 8 * y.code + z.code)) (decodeX3 y.code z.code) := by
  intro n w
  cases y with
  | o1 =>
    cases z with
    | o3 => exact encode_decodeCB sl n
    | o0 | o1 | o2 | o4 | o5 | o6 | o7 => rfl
  | o0 | o2 | o3 | o4 | o5 | o6 | o7 => cases z <;> rfl

/-- The decoder's fields and the opcode table agree on every opcode byte (R82, R97 to R99). -/
theorem encodes_decodeMain (sl : StopLen) (op : Byte) : Encodes sl op (decodeMain op) := by
  obtain ⟨y, hy⟩ : ∃ y : Oct, y.code = op.toNat / 8 % 8 := ⟨_, code_octOf (by omega)⟩
  obtain ⟨z, hz⟩ : ∃ z : Oct, z.code = op.toNat % 8 := ⟨_, code_octOf (by omega)⟩
  unfold decodeMain
  obtain h | h | h | h := quadrant_cases op <;> simp only [h]
  · simpa only [hy, hz, ofNat_fields_zero h] using encodes_decodeX0 sl y z
  · simpa only [hy, hz, ofNat_fields h] using encodes_decodeX1 sl y z
  · simpa only [hy, hz, ofNat_fields h] using encodes_decodeX2 sl y z
  · simpa only [hy, hz, ofNat_fields h] using encodes_decodeX3 sl y z

/-! ## The round trips, the length by the first byte, and the CB page -/

/-- Settles O1, row by row of the opcode table: a row with an operand word and STOP by their laws, and every other row by
computing, since only a word is taken apart and only STOP depends on STOP_LEN. -/
theorem encodedInstructionDecodesBack : Obligations.EncodedInstructionDecodesBack := by
  intro sl i rest
  cases i with
  | ld_BC_n16 w => exact Laws.EncodingDecodesBack.ld_BC_n16 w sl rest
  | ld_DE_n16 w => exact Laws.EncodingDecodesBack.ld_DE_n16 w sl rest
  | ld_HL_n16 w => exact Laws.EncodingDecodesBack.ld_HL_n16 w sl rest
  | ld_SP_n16 w => exact Laws.EncodingDecodesBack.ld_SP_n16 w sl rest
  | ld_atA16_SP w => exact Laws.EncodingDecodesBack.ld_atA16_SP w sl rest
  | ld_atA16_A w => exact Laws.EncodingDecodesBack.ld_atA16_A w sl rest
  | ld_A_atA16 w => exact Laws.EncodingDecodesBack.ld_A_atA16 w sl rest
  | jp_a16 w => exact Laws.EncodingDecodesBack.jp_a16 w sl rest
  | jp_NZ_a16 w => exact Laws.EncodingDecodesBack.jp_NZ_a16 w sl rest
  | jp_Z_a16 w => exact Laws.EncodingDecodesBack.jp_Z_a16 w sl rest
  | jp_NC_a16 w => exact Laws.EncodingDecodesBack.jp_NC_a16 w sl rest
  | jp_C_a16 w => exact Laws.EncodingDecodesBack.jp_C_a16 w sl rest
  | call_a16 w => exact Laws.EncodingDecodesBack.call_a16 w sl rest
  | call_NZ_a16 w => exact Laws.EncodingDecodesBack.call_NZ_a16 w sl rest
  | call_Z_a16 w => exact Laws.EncodingDecodesBack.call_Z_a16 w sl rest
  | call_NC_a16 w => exact Laws.EncodingDecodesBack.call_NC_a16 w sl rest
  | call_C_a16 w => exact Laws.EncodingDecodesBack.call_C_a16 w sl rest
  | stop => exact Laws.EncodingDecodesBack.stop sl rest
  | _ => rfl

theorem Shape.length_operands_writtenByte (sl : StopLen) (n : Byte) (w : Word) (sh : Shape) :
    (sh.operands sl (sh.writtenByte n) w).length = (sh.operands sl n w).length := by
  cases sh with
  | plain | imm8 | imm16 | cbPage => rfl
  | stop => cases sl <;> rfl

/-- STOP alone has a byte that is written otherwise than it was read. -/
theorem Shape.writtenByte_of_ne_stop {n : Byte} {w : Word} {sh : Shape} (h : instrOf (sh.form n w) ≠ .stop) :
    sh.writtenByte n = n := by
  cases sh with
  | plain | imm8 | imm16 | cbPage => rfl
  | stop => exact absurd rfl h

/-- Settles O2: the bytes used are an opcode byte and the operands of its shape, and `encodes_decodeMain` says that the
encoder writes the same. -/
theorem decodedBytesAreTheEncoding : Obligations.DecodedBytesAreTheEncoding := by
  intro sl bs i rest h
  obtain ⟨op, n, w, rfl, rfl⟩ := exists_operands_of_decode h
  refine ⟨op :: (decodeMain op).operands sl n w, rfl, ?_⟩
  rw [encodes_decodeMain sl op n w]
  refine ⟨?_, rfl, fun hstop => ?_⟩
  · rw [List.length_cons, List.length_cons, Shape.length_operands_writtenByte]
  · rw [Shape.writtenByte_of_ne_stop hstop]

theorem mem_unusedOpcodes_iff {op : Byte} : op ∈ unusedOpcodes ↔ ∃ u : Unused, u.opcode = op := by
  constructor
  · intro h
    simp only [unusedOpcodes, List.mem_cons, List.not_mem_nil, or_false] at h
    obtain rfl | rfl | rfl | rfl | rfl | rfl | rfl | rfl | rfl | rfl | rfl := h
    exacts [⟨.xD3, rfl⟩, ⟨.xDB, rfl⟩, ⟨.xDD, rfl⟩, ⟨.xE3, rfl⟩, ⟨.xE4, rfl⟩, ⟨.xEB, rfl⟩, ⟨.xEC, rfl⟩, ⟨.xED, rfl⟩,
      ⟨.xF4, rfl⟩, ⟨.xFC, rfl⟩, ⟨.xFD, rfl⟩]
  · rintro ⟨u, rfl⟩
    cases u <;> decide

theorem decodeMain_unused (u : Unused) : decodeMain u.opcode = .plain (.unused u) := by cases u <;> rfl

/-- The instruction of an opcode byte is an unused opcode's row where the byte is one of the 11 (R86). -/
theorem exists_unusedInstr_iff {op n : Byte} {w : Word} :
    (∃ u, instrOf ((decodeMain op).form n w) = unusedInstr u) ↔ op ∈ unusedOpcodes := by
  rw [mem_unusedOpcodes_iff]
  refine exists_congr fun u => ⟨fun h => ?_, ?_⟩
  · have hbytes := encodes_decodeMain .one op n w
    rw [h, encode_unused] at hbytes
    exact (List.cons.inj hbytes).1
  · rintro rfl
    rw [decodeMain_unused]
    rfl

/-- Settles O3: `decode_cons` has the two answers, and the length is that of the opcode byte with its operands. -/
theorem decoderIsTotalAndLengthIsByFirstByte : Obligations.DecoderIsTotalAndLengthIsByFirstByte := by
  intro sl op bs
  refine ⟨by simp [instrLength_eq sl op 0 0], instrLength_le sl op, rfl, ?_⟩
  obtain ⟨n, w, rest, rfl, hd⟩ | ⟨hlt, hd⟩ := decode_cons sl op bs
  · rw [instrLength_eq sl op n w]
    refine ⟨fun _ => ⟨_, by simpa using hd, exists_unusedInstr_iff⟩, fun h => ?_⟩
    simp at h
  · exact ⟨fun h => by omega, fun _ => hd⟩

/-- The bytes the encoder writes under either STOP_LEN decode to the instruction. -/
theorem decodes_of_encode {bs : List Byte} {i : Instr} (h : ∀ sl, encode sl i = bs) : Decodes bs i :=
  fun sl rest => h sl ▸ encodedInstructionDecodesBack sl i rest

/-- Settles O4, by the encodings of the four groups of the CB page. -/
theorem cbPageIsUniform : Obligations.CbPageIsUniform := by
  refine ⟨fun i => ?_, fun b i => ⟨?_, ?_, ?_⟩, rfl, rfl, rfl, rfl, rfl, rfl, rfl, rfl⟩
  · refine ⟨?_, ?_, ?_, ?_, ?_, ?_, ?_, ?_⟩ <;> exact decodes_of_encode fun sl => encode_shift sl _ i
  · exact decodes_of_encode fun sl => encode_bit sl b i
  · exact decodes_of_encode fun sl => encode_res sl b i
  · exact decodes_of_encode fun sl => encode_set sl b i

/-- Settles O5: each string is what the encoder writes. -/
theorem wordsWrittenFromTheSpecDecode : Obligations.WordsWrittenFromTheSpecDecode := by
  refine ⟨?_, ?_, ?_, ?_, ?_, ?_, ?_, ?_, ?_, ?_, ?_, ?_, ?_, ?_, ?_, ?_, ?_⟩ <;>
    exact decodes_of_encode fun _ => rfl

end Sys2Proof

/-! Statements about the fetch of a step (spec/30_encoding.md R89, R90): it reads the bytes at PC, and the step is the
meaning of what they decode to. -/

namespace Sys2Proof.Machine

/-- The bytes from PC on can be read, and are these. -/
def State.ReadsAtPC (s : State) (bs : List Byte) : Prop := readBytes s s.pc bs.length = .next bs

/-- Where PC stands is no part of what memory holds. -/
theorem readBytes_setPC (s : State) (p a : Word) (n : Nat) : readBytes { s with pc := p } a n = readBytes s a n := by
  induction n generalizing a with
  | zero => rfl
  | succ n ih => simp only [readBytes, ih]; rfl

/-- The first byte at PC is fetched, and the others stand at the new PC. -/
theorem State.ReadsAtPC.fetch8 {s : State} {b : Byte} {bs : List Byte} (h : s.ReadsAtPC (b :: bs)) :
    fetch8 s = .next (b, { s with pc := s.pc + 1 }) ∧ State.ReadsAtPC { s with pc := s.pc + 1 } bs := by
  obtain ⟨b', hb, h⟩ := andThen_next_iff.mp h
  obtain ⟨bs', hbs, h⟩ := andThen_next_iff.mp h
  cases h
  refine ⟨by rw [Machine.fetch8, hb, andThen_next], ?_⟩
  rw [State.ReadsAtPC, readBytes_setPC]
  exact hbs

/-- A word at PC is fetched low byte first. -/
theorem State.ReadsAtPC.fetch16 {s : State} {w : Word} (h : s.ReadsAtPC [lo w, hi w]) :
    fetch16 s = .next (w, { s with pc := s.pc + 2 }) := by
  obtain ⟨hlo, h⟩ := h.fetch8
  obtain ⟨hhi, -⟩ := h.fetch8
  rw [Machine.fetch16, hlo, andThen_next, hhi, andThen_next, join_hi_lo, BitVec.add_assoc]
  rfl

/-- Fetching the operands of a shape moves PC past them. -/
theorem fetchOperands_of_readsAtPC {sh : Shape} {s : State} {n : Byte} {w : Word}
    (h : s.ReadsAtPC (sh.operands s.params.stopLen n w)) :
    fetchOperands sh s = .next (instrOf (sh.form n w),
      { s with pc := s.pc + BitVec.ofNat 16 (sh.operands s.params.stopLen n w).length }) := by
  cases sh with
  | plain φ => simp [fetchOperands, Shape.operands, Shape.form]
  | imm8 mk | cbPage =>
    obtain ⟨hn, -⟩ := h.fetch8
    simp [fetchOperands, Shape.operands, Shape.form, hn]
  | imm16 mk =>
    have hw := h.fetch16
    simp [fetchOperands, Shape.operands, Shape.form, hw]
  | stop =>
    cases hsl : s.params.stopLen with
    | one => simp [fetchOperands, Shape.operands, Shape.form, hsl, instrOf]
    | two =>
      rw [hsl] at h
      obtain ⟨hn, -⟩ := h.fetch8
      simp [fetchOperands, Shape.operands, Shape.form, hsl, hn, instrOf]

/-- The fetch names what the bytes at PC decode to and moves PC past them (R90). -/
theorem fetchInstr_of_decode {s : State} {bs : List Byte} {i : Instr} (h : s.ReadsAtPC bs)
    (hd : decode s.params.stopLen bs = .ok (i, [])) :
    fetchInstr s = .next (i, { s with pc := s.pc + BitVec.ofNat 16 bs.length }) := by
  obtain ⟨op, n, w, rfl, rfl⟩ := exists_operands_of_decode hd
  rw [List.append_nil] at h ⊢
  obtain ⟨hop, h⟩ := h.fetch8
  rw [fetchInstr, hop, andThen_next, fetchOperands_of_readsAtPC h]
  simp [BitVec.add_assoc, BitVec.add_comm, BitVec.ofNat_add]

/-- Settles O7: the fetch of `fetchInstr_of_decode`, then `exec`. -/
theorem stepRunsDecodedInstruction : Obligations.StepRunsDecodedInstruction := by
  intro s n bs i hread hd
  obtain rfl := readBytes_length hread
  rw [step, fetchInstr_of_decode hread hd, andThen_next]

/-- Settles O8: the step is the form's meaning on the state with PC moved (`stepRunsDecodedInstruction`), and the form
leaves PC alone (`formMeaning_frame`). -/
theorem pcAdvancesByInstructionLength : Obligations.PcAdvancesByInstructionLength := by
  intro s t n bs φ hread hd hpc hstep
  rw [stepRunsDecodedInstruction s n bs _ hread hd, exec_instrOf] at hstep
  exact (formMeaning_frame hstep).pc hpc

end Sys2Proof.Machine

/-! Statements about 8-bit arithmetic and logic (spec/40_alu8.md): the adder, the subtracter and DAA in exact integers,
then each instruction on every operand form. -/

namespace Sys2Proof.Machine

/-! ## The adder and the subtracter -/

theorem ofNat8_eq_zero_iff {n : Nat} : BitVec.ofNat 8 n = 0 ↔ n % 256 = 0 := by
  simp [← BitVec.toNat_inj]

/-- `trunc8` is the mathematical modulus (00_scope.md R8). -/
theorem toNat_ofInt8 (n : Int) : ((BitVec.ofInt 8 n).toNat : Int) = n % 256 := by
  rw [BitVec.toNat_ofInt]
  omega

theorem ofInt8_eq_zero_iff {n : Int} : BitVec.ofInt 8 n = 0 ↔ n % 256 = 0 := by
  rw [← BitVec.toNat_inj, ← toNat_ofInt8]
  simp

theorem toNat_decide (p : Prop) [Decidable p] : (decide p).toNat = if p then 1 else 0 := Bool.cond_decide ..

/-- The adder with its Z read off the exact sum (40_alu8.md R120). -/
theorem add8_eq (a v : Byte) (cin : Bool) : add8 a v cin =
    { res := BitVec.ofNat 8 (a.toNat + v.toNat + cin.toNat)
      z := decide ((a.toNat + v.toNat + cin.toNat) % 256 = 0)
      n := false
      h := decide (a.toNat % 16 + v.toNat % 16 + cin.toNat > 0x0F)
      c := decide (a.toNat + v.toNat + cin.toNat > 0xFF) } := by
  simp only [add8, ofNat8_eq_zero_iff]

/-- The subtracter with its Z read off the exact difference and its borrows as comparisons (R121). -/
theorem sub8_eq (a v : Byte) (cin : Bool) : sub8 a v cin =
    { res := BitVec.ofInt 8 ((a.toNat : Int) - v.toNat - cin.toNat)
      z := decide (((a.toNat : Int) - v.toNat - cin.toNat) % 256 = 0)
      n := true
      h := decide (a.toNat % 16 < v.toNat % 16 + cin.toNat)
      c := decide (a.toNat < v.toNat + cin.toNat) } := by
  have hhalf : ((a.toNat % 16 : Nat) : Int) - (v.toNat % 16 : Nat) - cin.toNat < 0 ↔
      a.toNat % 16 < v.toNat % 16 + cin.toNat := by omega
  have hborrow : (a.toNat : Int) - v.toNat - cin.toNat < 0 ↔ a.toNat < v.toNat + cin.toNat := by omega
  simp only [sub8, trunc8, ofInt8_eq_zero_iff, hhalf, hborrow]

/-- The subtraction of a comparison: Z is equality, H and C compare the operands (R144). -/
theorem sub8_compare (a v : Byte) : sub8 a v false =
    { res := a - v
      z := decide (a = v)
      n := true
      h := decide (a.toNat % 16 < v.toNat % 16)
      c := decide (a.toNat < v.toNat) } := by
  have hres : BitVec.ofInt 8 ((a.toNat : Int) - v.toNat) = a - v := by
    have := toNat_ofInt8 ((a.toNat : Int) - v.toNat)
    bv_omega
  have hzero : ((a.toNat : Int) - v.toNat) % 256 = 0 ↔ a = v := by bv_omega
  simp only [sub8_eq, Bool.toNat_false, Nat.cast_zero, Int.sub_zero, Nat.add_zero, hres, hzero]

/-- The adder on 1 (R147). -/
theorem add8_one (v : Byte) : add8 v 1 false =
    { res := v + 1
      z := decide (v = 0xFF)
      n := false
      h := decide (v.toNat % 16 = 0x0F)
      c := decide (v = 0xFF) } := by
  have hres : BitVec.ofNat 8 (v.toNat + 1) = v + 1 := by bv_omega
  have hzero : (v.toNat + 1) % 256 = 0 ↔ v = 0xFF := by bv_omega
  have hhalf : v.toNat % 16 + 1 > 0x0F ↔ v.toNat % 16 = 0x0F := by omega
  have hcarry : v.toNat + 1 > 0xFF ↔ v = 0xFF := by bv_omega
  simp only [add8_eq, BitVec.reduceToNat, Nat.reduceMod, Bool.toNat_false, Nat.add_zero, hres, hzero, hhalf, hcarry]

/-- The subtracter on 1 (R149). -/
theorem sub8_one (v : Byte) : sub8 v 1 false =
    { res := v - 1
      z := decide (v = 0x01)
      n := true
      h := decide (v.toNat % 16 = 0x00)
      c := decide (v = 0x00) } := by
  have hhalf : v.toNat % 16 < 1 ↔ v.toNat % 16 = 0x00 := by omega
  have hborrow : v.toNat < 1 ↔ v = 0x00 := by bv_omega
  simp only [sub8_compare, BitVec.reduceToNat, Nat.reduceMod, hhalf, hborrow]

/-- Settles O26: `add8_eq` and `sub8_eq` with the exact integers cut at 256 and at 16, and the bits of the three
logic operations. -/
theorem adderSubtracterAndLogicUnit : Obligations.AdderSubtracterAndLogicUnit := by
  refine ⟨fun a v cin => ⟨?_, ?_, decide_eq_true_iff, rfl⟩,
    fun a v cin => ⟨?_, decide_eq_true_iff, decide_eq_true_iff, rfl⟩,
    fun a v cin k => ⟨BitVec.getLsbD_and, BitVec.getLsbD_xor, BitVec.getLsbD_or⟩, ?_⟩
  · have := a.isLt
    have := v.isLt
    have := cin.toNat_le
    simp only [add8_eq, BitVec.toNat_ofNat, toNat_decide]
    split <;> omega
  · have := cin.toNat_le
    simp only [add8_eq, toNat_decide]
    split <;> omega
  · have := a.isLt
    have := v.isLt
    have := cin.toNat_le
    simp only [sub8_eq, toNat_ofInt8, toNat_decide]
    split <;> omega
  · rintro op a v cin (rfl | rfl | rfl) <;> exact ⟨decide_eq_true_iff, rfl, rfl, rfl⟩

/-! ## Instructions that write A and the flags -/

/-- A flag string leaves in each flag its column's value, or the old one, and bits 3:0 as before (00_scope.md R11). -/
theorem flagsAre_writeFlags (f : Byte) (z n h c : Option Bool) :
    FlagsAre f (writeFlags f z n h c) (z.getD (flagOf f .z)) (n.getD (flagOf f .n)) (h.getD (flagOf f .h))
      (c.getD (flagOf f .c)) := by
  refine ⟨?_, ?_, ?_, ?_, writeFlags_and_low ..⟩ <;> rw [flagOf_writeFlags]

/-- An instruction that writes A and a flag string: a column left out keeps its flag. -/
theorem setsA_of_exec {i : Instr} {s : State} {res : Byte} {z n h c : Option Bool}
    (hexec : exec i s = .next { s with a := res, f := writeFlags s.f z n h c }) :
    SetsA i s res (z.getD (s.flag .z)) (n.getD (s.flag .n)) (h.getD (s.flag .h)) (c.getD (s.flag .c)) :=
  ⟨_, flagsAre_writeFlags .., hexec⟩

/-- The ALU operations but CP write what their unit answers. -/
theorem setsA_of_aluState {op : AluOp} {i : Instr} {s : State} {v : Byte} {r : AluResult} (hop : op ≠ .cp)
    (hexec : exec i s = .next (aluState op s v)) (hr : aluResult op s.a v (s.flag .c) = r) :
    SetsA i s r.res r.z r.n r.h r.c := by
  subst hr
  simp only [aluState, hop, if_false] at hexec
  exact setsA_of_exec hexec

/-- What an ALU operation does on every slot follows from what it does with a byte. -/
theorem onOperand_aluInstr {op : AluOp} {P : Instr → State → Byte → Prop}
    (h : ∀ i s v, exec i s = .next (aluState op s v) → P i s v) : OnOperand (aluInstr op) P := by
  refine ⟨fun r s => h _ _ _ ?_, fun s c hc => h _ _ _ ?_, fun s f hf => ?_⟩
  · rw [exec_alu, alu, readT8, andThen_next]
  · rw [exec_alu, alu, readT8, memRead_of_cell hc, andThen_next]
  · rw [exec_alu, alu, readT8, memRead, hf, andThen_fault, andThen_fault]

theorem exec_aluImm (op : AluOp) (n : Byte) (s : State) : exec (aluImmInstr n op) s = .next (aluState op s n) :=
  exec_instrOf (.aluImm op n) s

theorem decodes_aluInstr (op : AluOp) (t : Slot) :
    Decodes [BitVec.ofNat 8 (0x80 + 8 * op.code + t.code)] (aluInstr op t) := by
  refine decodes_of_encode fun sl => ?_
  cases op <;> (cases t with | reg r => cases r <;> rfl | atHL => rfl)

theorem decodes_aluImmInstr (op : AluOp) (n : Byte) :
    Decodes [BitVec.ofNat 8 (0xC6 + 8 * op.code), n] (aluImmInstr n op) := by
  refine decodes_of_encode fun sl => ?_
  cases op <;> rfl

theorem addsToA_add {i : Instr} {s : State} {v : Byte} (h : exec i s = .next (aluState .add s v)) :
    AddsToA i s v false := setsA_of_aluState (by decide) h (add8_eq ..)

theorem addsToA_adc {i : Instr} {s : State} {v : Byte} (h : exec i s = .next (aluState .adc s v)) :
    AddsToA i s v (s.flag .c) := setsA_of_aluState (by decide) h (add8_eq ..)

theorem subtractsFromA_sub {i : Instr} {s : State} {v : Byte} (h : exec i s = .next (aluState .sub s v)) :
    SubtractsFromA i s v false := setsA_of_aluState (by decide) h (sub8_eq ..)

theorem subtractsFromA_sbc {i : Instr} {s : State} {v : Byte} (h : exec i s = .next (aluState .sbc s v)) :
    SubtractsFromA i s v (s.flag .c) := setsA_of_aluState (by decide) h (sub8_eq ..)

theorem setsA_and {i : Instr} {s : State} {v : Byte} (h : exec i s = .next (aluState .and s v)) :
    SetsA i s (s.a &&& v) (decide (s.a &&& v = 0)) false true false := setsA_of_aluState (by decide) h rfl

theorem setsA_xor {i : Instr} {s : State} {v : Byte} (h : exec i s = .next (aluState .xor s v)) :
    SetsA i s (s.a ^^^ v) (decide (s.a ^^^ v = 0)) false false false := setsA_of_aluState (by decide) h rfl

theorem setsA_or {i : Instr} {s : State} {v : Byte} (h : exec i s = .next (aluState .or s v)) :
    SetsA i s (s.a ||| v) (decide (s.a ||| v = 0)) false false false := setsA_of_aluState (by decide) h rfl

/-- CP writes the flags of its subtraction and A as it was (R144). -/
theorem setsA_cp {i : Instr} {s : State} {v : Byte} (h : exec i s = .next (aluState .cp s v)) :
    SetsA i s s.a (decide (s.a = v)) true (decide (s.a.toNat % 16 < v.toNat % 16))
      (decide (s.a.toNat < v.toNat)) := by
  simp only [aluState, aluResult, sub8_compare, if_true] at h
  exact setsA_of_exec h

/-- Settles O27, by `addsToA_add` and `addsToA_adc` on every operand form. -/
theorem addAndAdcWriteSumAndFlags : Obligations.AddAndAdcWriteSumAndFlags :=
  ⟨onOperand_aluInstr fun _ _ _ => addsToA_add, fun n s => addsToA_add (exec_aluImm .add n s),
    onOperand_aluInstr fun _ _ _ => addsToA_adc, fun n s => addsToA_adc (exec_aluImm .adc n s),
    fun t => ⟨decodes_aluInstr .add t, decodes_aluInstr .adc t⟩,
    fun n => ⟨decodes_aluImmInstr .add n, decodes_aluImmInstr .adc n⟩⟩

/-- Settles O28, by `subtractsFromA_sub` and `subtractsFromA_sbc` on every operand form. -/
theorem subAndSbcWriteDifferenceAndFlags : Obligations.SubAndSbcWriteDifferenceAndFlags :=
  ⟨onOperand_aluInstr fun _ _ _ => subtractsFromA_sub, fun n s => subtractsFromA_sub (exec_aluImm .sub n s),
    onOperand_aluInstr fun _ _ _ => subtractsFromA_sbc, fun n s => subtractsFromA_sbc (exec_aluImm .sbc n s),
    fun t => ⟨decodes_aluInstr .sub t, decodes_aluInstr .sbc t⟩,
    fun n => ⟨decodes_aluImmInstr .sub n, decodes_aluImmInstr .sbc n⟩⟩

/-- Settles O29, by the law of each of the three operations on every operand form. -/
theorem logicOperationsWriteAAndFlags : Obligations.LogicOperationsWriteAAndFlags :=
  ⟨onOperand_aluInstr fun _ _ _ => setsA_and, fun n s => setsA_and (exec_aluImm .and n s),
    onOperand_aluInstr fun _ _ _ => setsA_xor, fun n s => setsA_xor (exec_aluImm .xor n s),
    onOperand_aluInstr fun _ _ _ => setsA_or, fun n s => setsA_or (exec_aluImm .or n s),
    fun t => ⟨decodes_aluInstr .and t, decodes_aluInstr .xor t, decodes_aluInstr .or t⟩,
    fun n => ⟨decodes_aluImmInstr .and n, decodes_aluImmInstr .xor n, decodes_aluImmInstr .or n⟩⟩

/-- Settles O30, by `setsA_cp` on every operand form. -/
theorem compareWritesFlagsOnly : Obligations.CompareWritesFlagsOnly :=
  ⟨onOperand_aluInstr fun _ _ _ => setsA_cp, fun n s => setsA_cp (exec_aluImm .cp n s),
    decodes_aluInstr .cp, decodes_aluImmInstr .cp⟩

/-! ## INC, DEC and the flag operations -/

/-- An instruction that reads a slot, writes it back and then writes its flags does so on every slot. -/
theorem slotBecomes_of_exec {op : Slot → Instr} {res : State → Byte → Byte} {z n h c : State → Byte → Option Bool}
    (hexec : ∀ t s, exec (op t) s = andThen (readT8 s t) fun v => andThen (writeT8 s t (res s v)) fun s1 =>
      .next { s1 with f := writeFlags s1.f (z s v) (n s v) (h s v) (c s v) }) :
    SlotBecomes op res (fun s v => (z s v).getD (s.flag .z)) (fun s v => (n s v).getD (s.flag .n))
      (fun s v => (h s v).getD (s.flag .h)) (fun s v => (c s v).getD (s.flag .c)) := by
  refine ⟨fun r s => ⟨_, flagsAre_writeFlags .., ?_⟩, fun s k hk => ⟨_, flagsAre_writeFlags .., ?_⟩, fun s f hf => ?_⟩
  · rw [hexec, readT8, andThen_next, writeT8, andThen_next, writeReg_f]
  · rw [hexec, readT8, memRead_of_cell hk, andThen_next, writeT8, memWrite_of_cell hk, andThen_next, State.setByte_f]
  · rw [hexec, readT8, memRead, hf, andThen_fault, andThen_fault]

/-- INC of a slot in the arithmetic of the spec (R147, R148). -/
theorem exec_incInstr (t : Slot) (s : State) : exec (incInstr t) s = andThen (readT8 s t) fun v =>
    andThen (writeT8 s t (v + 1)) fun s1 => .next { s1 with
      f := writeFlags s1.f (some (decide (v = 0xFF))) (some false) (some (decide (v.toNat % 16 = 0x0F))) none } := by
  refine (exec_instrOf (.inc t) s).trans ?_
  simp only [formMeaning, inc8, add8_one]

/-- DEC of a slot in the arithmetic of the spec (R149, R150). -/
theorem exec_decInstr (t : Slot) (s : State) : exec (decInstr t) s = andThen (readT8 s t) fun v =>
    andThen (writeT8 s t (v - 1)) fun s1 => .next { s1 with
      f := writeFlags s1.f (some (decide (v = 0x01))) (some true) (some (decide (v.toNat % 16 = 0x00))) none } := by
  refine (exec_instrOf (.dec t) s).trans ?_
  simp only [formMeaning, dec8, sub8_one]

/-- Settles O31: `exec_incInstr` and `exec_decInstr` on every slot. -/
theorem incAndDecKeepCarry : Obligations.IncAndDecKeepCarry := by
  refine ⟨slotBecomes_of_exec exec_incInstr, slotBecomes_of_exec exec_decInstr, fun t => ⟨?_, ?_⟩⟩ <;>
    exact decodes_of_encode fun _ => by cases t with | reg r => cases r <;> rfl | atHL => rfl

/-- Settles O34: the complement is a subtraction from 0xFF, and a column the flag string leaves out keeps its flag. -/
theorem complementAndCarryFlagOperations : Obligations.ComplementAndCarryFlagOperations := by
  refine ⟨fun s => ?_, fun s => ?_, fun s => ?_, decodes_of_encode fun _ => rfl,
    decodes_of_encode fun _ => rfl, decodes_of_encode fun _ => rfl⟩
  · have hnot : BitVec.ofNat 8 (0xFF - s.a.toNat) = ~~~s.a := by bv_omega
    rw [hnot]
    exact setsA_of_exec (exec_instrOf .cpl s)
  · exact setsA_of_exec (exec_instrOf .scf s)
  · exact setsA_of_exec (exec_instrOf .ccf s)

/-! ## DAA -/

theorem ofInt8_eq_trunc8 (v : Int) : BitVec.ofInt 8 v = trunc8 v := rfl

theorem trunc8_natCast (n : Nat) : trunc8 n = BitVec.ofNat 8 n := BitVec.ofInt_natCast 8 n

/-- Narrowing between two additions is narrowing once (00_scope.md R8). -/
theorem trunc8_trunc8_add (x y : Int) : trunc8 ((trunc8 x).toNat + y) = trunc8 (x + y) := by
  rw [← BitVec.toNat_inj]
  have hx := toNat_ofInt8 x
  have hxy := toNat_ofInt8 (x + y)
  have h := toNat_ofInt8 ((BitVec.ofInt 8 x).toNat + y)
  simp only [trunc8]
  omega

/-- After a subtraction DAA's two corrections are one (40_alu8.md R151). -/
theorem daaResult_sub (a : Byte) (h c : Bool) : daaResult a true h c =
    (BitVec.ofInt 8 ((a.toNat : Int) - (if c then 0x60 else 0) - (if h then 0x06 else 0)), c) := by
  cases c <;> cases h <;> simp [daaResult, Int.sub_eq_add_neg, trunc8_trunc8_add, ofInt8_eq_trunc8]

/-- Adding 0x60 leaves the low digit, so that the second correction of DAA can be read off A. -/
theorem toNat_trunc8_add_0x60_mod (a : Byte) : (trunc8 ((a.toNat : Int) + 0x60)).toNat % 16 = a.toNat % 16 := by
  have := toNat_ofInt8 ((a.toNat : Int) + 0x60)
  simp only [trunc8]
  omega

/-- After an addition DAA's two corrections are one (R151). -/
theorem daaResult_add (a : Byte) (h c : Bool) : daaResult a false h c =
    (BitVec.ofNat 8 (a.toNat + (if c || decide (a.toNat > 0x99) then 0x60 else 0) +
      (if h || decide (a.toNat % 16 > 0x09) then 0x06 else 0)), c || decide (a.toNat > 0x99)) := by
  rw [daaResult, if_neg (by simp)]
  generalize (c || decide (a.toNat > 0x99)) = high
  have hdigit : (if high then trunc8 ((a.toNat : Int) + 0x60) else a).toNat % 16 = a.toNat % 16 := by
    cases high with
    | true => exact toNat_trunc8_add_0x60_mod a
    | false => rfl
  simp only [hdigit]
  generalize (h || decide (a.toNat % 16 > 0x09)) = low
  cases high <;> cases low <;> simp [trunc8_trunc8_add, ← trunc8_natCast]

/-- Settles O32: DAA writes what `daaResult` answers, and its flag string leaves N out. -/
theorem daaFollowsTheCanonicalRule : Obligations.DaaFollowsTheCanonicalRule := by
  refine ⟨fun s hn => ?_, fun s hn => ?_, decodes_of_encode fun _ => rfl⟩
  · have h := setsA_of_exec (exec_instrOf .daa s)
    simp only [hn, daaResult_add] at h
    exact h
  · have h := setsA_of_exec (exec_instrOf .daa s)
    simp only [hn, daaResult_sub] at h
    exact h

/-! ## DAA after ADC or SBC of decimal numbers -/

/-- The two digits of a decimal number as an exact integer. -/
theorem toNat_bcd {n : Nat} (h : n < 100) : (bcd n).toNat = n / 10 * 16 + n % 10 := by
  rw [bcd, BitVec.toNat_ofNat]
  omega

/-! In the next three, `t` is the sum of two tens digits and `u` that of two units digits and a carry: the adder's sum
is `16 * t + u` and the decimal sum `10 * t + u`. -/

/-- DAA's test for 0x60 is the decimal carry out of the tens (R151). -/
theorem tens_carry_iff {t u : Nat} (hsum : 10 * t + u < 200) (hu : u < 20) :
    16 * t + u > 0xFF ∨ (16 * t + u) % 2 ^ 8 > 0x99 ↔ 10 * t + u ≥ 100 := by
  have : t ≤ 8 ∨ t = 9 ∨ t ≥ 10 := by omega
  omega

/-- DAA's test for 6 is the decimal carry out of the units (R151). -/
theorem units_carry_iff {t u : Nat} (hu : u < 20) : u > 0x0F ∨ (16 * t + u) % 2 ^ 8 % 16 > 0x09 ↔ u ≥ 10 := by omega

/-- The corrections by the carries turn the adder's sum into the digits of the decimal sum. -/
theorem corrected_sum_eq_digits {t u : Nat} (hsum : 10 * t + u < 200) (hu : u < 20) :
    ((16 * t + u) % 2 ^ 8 + (if 10 * t + u ≥ 100 then 0x60 else 0) + (if u ≥ 10 then 0x06 else 0)) % 2 ^ 8 =
      (10 * t + u) % 100 / 10 * 16 + (10 * t + u) % 100 % 10 := by
  have htens : (10 * t + u) % 100 / 10 + (if 10 * t + u ≥ 100 then 10 else 0) = t + if u ≥ 10 then 1 else 0 := by
    split <;> split <;> omega
  have hunits : (10 * t + u) % 100 % 10 + (if u ≥ 10 then 10 else 0) = u := by
    split <;> omega
  by_cases hcarry : 10 * t + u ≥ 100 <;> by_cases hhalf : u ≥ 10 <;>
    simp only [hcarry, hhalf, if_true, if_false] at htens hunits ⊢ <;> omega

/-- DAA makes of the adder's sum of two-digit decimal numbers their decimal sum (R126 to R128, R151). -/
theorem daaResult_add8_bcd {x y : Nat} (hx : x < 100) (hy : y < 100) (cin : Bool) :
    let r := add8 (bcd x) (bcd y) cin
    daaResult r.res r.n r.h r.c = (bcd ((x + y + cin.toNat) % 100), decide (x + y + cin.toNat ≥ 100)) := by
  have hcin := cin.toNat_le
  obtain ⟨t, ht⟩ : ∃ t, x / 10 + y / 10 = t := ⟨_, rfl⟩
  obtain ⟨u, hu⟩ : ∃ u, x % 10 + y % 10 + cin.toNat = u := ⟨_, rfl⟩
  have hbinary : (bcd x).toNat + (bcd y).toNat + cin.toNat = 16 * t + u := by
    rw [toNat_bcd hx, toNat_bcd hy]
    omega
  have hlow : (bcd x).toNat % 16 + (bcd y).toNat % 16 + cin.toNat = u := by
    rw [toNat_bcd hx, toNat_bcd hy]
    omega
  have hdecimal : x + y + cin.toNat = 10 * t + u := by omega
  have hsum : 10 * t + u < 200 := by omega
  have hu : u < 20 := by omega
  simp only [add8_eq, daaResult_add, hbinary, hlow, hdecimal, BitVec.toNat_ofNat, ← Bool.decide_or,
    tens_carry_iff hsum hu, units_carry_iff hu, decide_eq_true_eq, Prod.mk.injEq, and_true]
  apply BitVec.eq_of_toNat_eq
  rw [BitVec.toNat_ofNat, toNat_bcd (Nat.mod_lt _ (by decide)), corrected_sum_eq_digits hsum hu]

/-- DAA makes of the subtracter's difference of two-digit decimal numbers their decimal difference: the two borrows of
the subtracter are the decimal ones (R132 to R134, R151). -/
theorem daaResult_sub8_bcd {x y : Nat} (hx : x < 100) (hy : y < 100) (cin : Bool) :
    let r := sub8 (bcd x) (bcd y) cin
    daaResult r.res r.n r.h r.c = (bcd ((x + 100 - y - cin.toNat) % 100), decide (x < y + cin.toNat)) := by
  have hcin := cin.toNat_le
  have hborrow : (bcd x).toNat < (bcd y).toNat + cin.toNat ↔ x < y + cin.toNat := by
    rw [toNat_bcd hx, toNat_bcd hy]
    omega
  have hhalf : (bcd x).toNat % 16 < (bcd y).toNat % 16 + cin.toNat ↔ x % 10 < y % 10 + cin.toNat := by
    rw [toNat_bcd hx, toNat_bcd hy]
    omega
  simp only [sub8_eq, daaResult_sub, hborrow, hhalf, decide_eq_true_eq, Prod.mk.injEq, and_true]
  apply BitVec.eq_of_toNat_eq
  apply Int.ofNat_inj.mp
  rw [toNat_ofInt8, toNat_ofInt8, toNat_bcd hx, toNat_bcd hy, toNat_bcd (Nat.mod_lt _ (by decide))]
  split <;> split <;> omega

/-- DAA after an ALU operation corrects what the operation's unit answered. -/
theorem exec_daa_aluState {op : AluOp} {s : State} {v a' : Byte} {c' : Bool} {r : AluResult} (hop : op ≠ .cp)
    (hr : aluResult op s.a v (s.flag .c) = r) (hdaa : daaResult r.res r.n r.h r.c = (a', c')) :
    ∃ u, exec .daa (aluState op s v) = .next u ∧ u.a = a' ∧ u.flag .c = c' := by
  refine ⟨_, exec_instrOf .daa _, ?_⟩
  subst hr
  simp only [State.flag] at hdaa
  simp [aluState, hop, State.flag, hdaa]

/-- Settles O33: the decimal law of the adder and of the subtracter, carried to the state by `exec_daa_aluState`. -/
theorem daaAfterAdcOrSbcIsDecimal : Obligations.DaaAfterAdcOrSbcIsDecimal := by
  intro s x y hx hy ha
  refine ⟨⟨aluState .adc s (bcd y), ?_⟩, aluState .sbc s (bcd y), ?_⟩
  · obtain ⟨u, hu, hres⟩ := exec_daa_aluState (op := .adc) (by decide) (congrArg (add8 · (bcd y) (s.flag .c)) ha)
      (daaResult_add8_bcd hx hy (s.flag .c))
    exact ⟨u, exec_aluImm .adc (bcd y) s, hu, hres⟩
  · obtain ⟨u, hu, hres⟩ := exec_daa_aluState (op := .sbc) (by decide) (congrArg (sub8 · (bcd y) (s.flag .c)) ha)
      (daaResult_sub8_bcd hx hy (s.flag .c))
    exact ⟨u, exec_aluImm .sbc (bcd y) s, hu, hres⟩

end Sys2Proof.Machine

/-! Statements about 16-bit arithmetic (spec/41_alu16.md). None of its instructions accesses memory, so each completes
in every state. -/

namespace Sys2Proof.Machine

/-! ## ADD HL,rr, INC rr and DEC rr -/

/-- Settles O35: the flag string of ADD HL,rr leaves Z out, which keeps Z, and writes the carries of `addHL16`. -/
theorem addHLWritesSumAndKeepsZ : Obligations.AddHLWritesSumAndKeepsZ := by
  refine ⟨fun rr s => ?_, fun rr => decodes_of_encode fun _ => by cases rr <;> rfl⟩
  have hflags := flagsAre_writeFlags s.f none (some false) (some (addHL16 s.hl (readPair s rr)).2.1)
    (some (addHL16 s.hl (readPair s rr)).2.2)
  exact ⟨_, hflags, exec_instrOf (.addHL rr) s⟩

/-- INC rr writes the pair and nothing else (41_alu16.md R162). -/
theorem exec_incPairInstr (rr : Pair) (s : State) :
    exec (incPairInstr rr) s = .next (writePair s rr (readPair s rr + 1)) := exec_instrOf (.incPair rr) s

/-- DEC rr writes the pair and nothing else (R163). -/
theorem exec_decPairInstr (rr : Pair) (s : State) :
    exec (decPairInstr rr) s = .next (writePair s rr (readPair s rr - 1)) := exec_instrOf (.decPair rr) s

/-- Settles O36: `exec_incPairInstr` and `exec_decPairInstr` on each of the four pairs. -/
theorem pairIncDecWrapAndChangeNoFlag : Obligations.PairIncDecWrapAndChangeNoFlag := by
  refine ⟨fun s => ⟨exec_incPairInstr .bc s, exec_incPairInstr .de s, exec_incPairInstr .hl s,
    exec_incPairInstr .sp s, exec_decPairInstr .bc s, exec_decPairInstr .de s, exec_decPairInstr .hl s,
    exec_decPairInstr .sp s⟩, fun rr => ⟨?_, ?_⟩⟩ <;>
    exact decodes_of_encode fun _ => by cases rr <;> rfl

/-! ## SP plus a signed byte -/

/-- `sext_8` is the two's complement value of a byte (00_scope.md R8). -/
theorem sext8_eq_toInt (e : Byte) : sext8 e = e.toInt := by
  rw [sext8, BitVec.toInt_eq_toNat_cond]
  split <;> split <;> omega

/-- The SP-offset adder's result is the signed sum modulo 65536 (41_alu16.md R160). -/
theorem addSPe8_fst (sp : Word) (e : Byte) : (addSPe8 sp e).1 = BitVec.ofInt 16 ((sp.toNat : Int) + e.toInt) := by
  rw [addSPe8, sext8_eq_toInt, trunc16]

/-- Settles O37: ADD SP,e8 and LD HL,SP+e8 write the signed sum of `addSPe8_fst` and one flag string. -/
theorem spOffsetUsesLowByteFlags : Obligations.SpOffsetUsesLowByteFlags := by
  refine ⟨fun e s => ?_, fun e => ⟨decodes_of_encode fun _ => rfl, decodes_of_encode fun _ => rfl⟩⟩
  have hflags := flagsAre_writeFlags s.f (some false) (some false) (some (addSPe8 s.sp e).2.1)
    (some (addSPe8 s.sp e).2.2)
  rw [← addSPe8_fst]
  exact ⟨_, hflags, exec_instrOf (.addSP e) s, exec_instrOf (.ldHLSP e) s⟩

end Sys2Proof.Machine


/-! Statements about rotates, shifts and bit operations (spec/42_rotate_shift_bit.md): the shift unit bit by bit and in
exact integers, then each instruction on A or on every slot. -/

namespace Sys2Proof.Machine

/-! ## The parts of the shift unit -/

/-- An `or` of two bit fields that do not overlap is their sum, as in every row of R180 that has an `or`. -/
theorem or_eq_add_of_fields {x y : Byte} (i : Nat) (hx : 2 ^ i ∣ x.toNat) (hy : y.toNat < 2 ^ i) : x ||| y = x + y := by
  obtain ⟨q, hq⟩ := hx
  apply BitVec.eq_of_toNat_eq
  have hsum : (x ||| y).toNat = x.toNat + y.toNat := by
    rw [BitVec.toNat_or, hq, Nat.two_pow_add_eq_or_of_lt hy]
  rw [BitVec.toNat_add, ← hsum, Nat.mod_eq_of_lt (x ||| y).isLt]

theorem toNat_bit8 (b : Bool) : (bit8 b).toNat = b.toNat := by cases b <;> rfl

theorem getLsbD_bit8 (b : Bool) (k : Nat) : (bit8 b).getLsbD k = (decide (k = 0) && b) := by
  cases b <;> simp [bit8]

/-- The sign bit that SRA keeps, as a number. -/
theorem toNat_and_0x80 (t : Byte) : (t &&& 0x80).toNat = if t.toNat < 128 then 0 else 128 := by
  have := t.isLt
  rw [BitVec.toNat_and, show (0x80 : Byte).toNat = 2 ^ 7 from rfl, Nat.and_two_pow, Nat.testBit_eq_decide_div_mod_eq,
    toNat_decide]
  split <;> split <;> omega

/-- The sign bit that SRA keeps, bit by bit. -/
theorem getLsbD_and_0x80 (t : Byte) (k : Nat) : (t &&& 0x80).getLsbD k = (decide (k = 7) && t.getLsbD 7) := by
  rw [show (0x80 : Byte) = BitVec.twoPow 8 7 from rfl, BitVec.getLsbD_and, BitVec.getLsbD_twoPow]
  by_cases h : k = 7 <;> simp [h, eq_comm]

/-- Settles O38: each carry is the bit the unit names, and bit `k` of a result is bit `k` of its parts. -/
theorem shiftUnitMovesBits : Obligations.ShiftUnitMovesBits := by
  refine fun t cin => ⟨⟨rfl, rfl, rfl, rfl, rfl, rfl, rfl, rfl⟩, fun k hk => ?_⟩
  simp only [shift, BitVec.getLsbD_or, BitVec.getLsbD_shiftLeft, BitVec.getLsbD_ushiftRight, getLsbD_bit8,
    getLsbD_and_0x80]
  interval_cases k <;> simp

/-! ## The shift unit in exact integers (R180) -/

theorem shift_rlc (t : Byte) (cin : Bool) : shift .rlc t cin = (t.rotateLeft 1, t.getLsbD 7) := rfl

theorem shift_rrc (t : Byte) (cin : Bool) : shift .rrc t cin = (t.rotateRight 1, t.getLsbD 0) := rfl

theorem shift_rl (t : Byte) (cin : Bool) :
    shift .rl t cin = (BitVec.ofNat 8 (2 * t.toNat + cin.toNat), t.getLsbD 7) := by
  have hcin := toNat_bit8 cin
  have := cin.toNat_le
  have hor : t <<< 1 ||| bit8 cin = t <<< 1 + bit8 cin := or_eq_add_of_fields 1 (by bv_omega) (by omega)
  have hres : t <<< 1 + bit8 cin = BitVec.ofNat 8 (2 * t.toNat + cin.toNat) := by bv_omega
  rw [shift, hor, hres]

theorem shift_rr (t : Byte) (cin : Bool) :
    shift .rr t cin = (BitVec.ofNat 8 (t.toNat / 2 + 128 * cin.toNat), t.getLsbD 0) := by
  have hcin := toNat_bit8 cin
  have := cin.toNat_le
  have hor : bit8 cin <<< 7 ||| t >>> 1 = bit8 cin <<< 7 + t >>> 1 := or_eq_add_of_fields 7 (by bv_omega) (by bv_omega)
  have hres : bit8 cin <<< 7 + t >>> 1 = BitVec.ofNat 8 (t.toNat / 2 + 128 * cin.toNat) := by bv_omega
  rw [shift, BitVec.or_comm, hor, hres]

theorem shift_sla (t : Byte) (cin : Bool) : shift .sla t cin = (BitVec.ofNat 8 (2 * t.toNat), t.getLsbD 7) := by
  have hres : t <<< 1 = BitVec.ofNat 8 (2 * t.toNat) := by bv_omega
  rw [shift, hres]

theorem shift_sra (t : Byte) (cin : Bool) :
    shift .sra t cin = (BitVec.ofNat 8 (t.toNat / 2 + if t.toNat < 128 then 0 else 128), t.getLsbD 0) := by
  have hsign := toNat_and_0x80 t
  have hor : (t &&& (0x80 : Byte)) ||| t >>> 1 = (t &&& (0x80 : Byte)) + t >>> 1 :=
    or_eq_add_of_fields 7 (by split at hsign <;> omega) (by bv_omega)
  have hres : (t &&& (0x80 : Byte)) + t >>> 1 = BitVec.ofNat 8 (t.toNat / 2 + if t.toNat < 128 then 0 else 128) := by
    rw [← hsign]
    bv_omega
  rw [shift, BitVec.or_comm, hor, hres]

theorem shift_swap (t : Byte) (cin : Bool) :
    shift .swap t cin = (BitVec.ofNat 8 (t.toNat % 16 * 16 + t.toNat / 16), false) := by
  have hor : t <<< 4 ||| t >>> 4 = t <<< 4 + t >>> 4 := or_eq_add_of_fields 4 (by bv_omega) (by bv_omega)
  have hres : t <<< 4 + t >>> 4 = BitVec.ofNat 8 (t.toNat % 16 * 16 + t.toNat / 16) := by bv_omega
  rw [shift, hor, hres]

theorem shift_srl (t : Byte) (cin : Bool) : shift .srl t cin = (BitVec.ofNat 8 (t.toNat / 2), t.getLsbD 0) := by
  have hres : t >>> 1 = BitVec.ofNat 8 (t.toNat / 2) := by bv_omega
  rw [shift, hres]

/-! ## Rotates of A, and rotates and shifts of a slot -/

/-- A rotate of A writes what the shift unit answers, with Z, N and H cleared (R181 to R184). -/
theorem setsA_of_rotateA {op : ShiftOp} {i : Instr} {s : State} {res : Byte} {co : Bool}
    (hexec : exec i s = rotateA op s) (hshift : shift op s.a (s.flag .c) = (res, co)) :
    SetsA i s res false false false co := by
  simp only [rotateA, hshift] at hexec
  exact setsA_of_exec hexec

/-- Settles O39: each is `rotateA` of its operation, by the shift unit's law for it. -/
theorem rotatesOfAForceZToZero : Obligations.RotatesOfAForceZToZero :=
  ⟨fun s => setsA_of_rotateA (exec_instrOf (.rotA .rlca) s) (shift_rlc ..),
    fun s => setsA_of_rotateA (exec_instrOf (.rotA .rrca) s) (shift_rrc ..),
    fun s => setsA_of_rotateA (exec_instrOf (.rotA .rla) s) (shift_rl ..),
    fun s => setsA_of_rotateA (exec_instrOf (.rotA .rra) s) (shift_rr ..),
    decodes_of_encode fun _ => rfl, decodes_of_encode fun _ => rfl, decodes_of_encode fun _ => rfl,
    decodes_of_encode fun _ => rfl⟩

/-- A CB-page operation leaves in every slot what the shift unit answers on it (R185 to R200). -/
theorem shiftsSlot_of_shift {op : ShiftOp} {res : State → Byte → Byte} {co : Byte → Bool}
    (hshift : ∀ s v, shift op v (s.flag .c) = (res s v, co v)) : ShiftsSlot (shiftInstr op) res co := by
  refine slotBecomes_of_exec (z := fun s v => some (decide (res s v = 0))) (n := fun _ _ => some false)
    (h := fun _ _ => some false) (c := fun _ v => some (co v)) fun t s => ?_
  simp only [exec_shift, shiftSlot, hshift]

theorem decodes_shiftInstr (op : ShiftOp) (t : Slot) :
    Decodes [0xCB, BitVec.ofNat 8 (8 * op.code + t.code)] (shiftInstr op t) :=
  decodes_of_encode fun sl => encode_shift sl op t

/-- Settles O40, by the shift unit's law for each of the four rotates. -/
theorem cbRotatesOfEverySlot : Obligations.CbRotatesOfEverySlot :=
  ⟨shiftsSlot_of_shift fun _ _ => shift_rlc .., shiftsSlot_of_shift fun _ _ => shift_rrc ..,
    shiftsSlot_of_shift fun _ _ => shift_rl .., shiftsSlot_of_shift fun _ _ => shift_rr ..,
    fun t => ⟨decodes_shiftInstr .rlc t, decodes_shiftInstr .rrc t, decodes_shiftInstr .rl t,
      decodes_shiftInstr .rr t⟩⟩

/-- Settles O41, by the shift unit's law for each of the three shifts and for SWAP. -/
theorem cbShiftsAndSwapOfEverySlot : Obligations.CbShiftsAndSwapOfEverySlot :=
  ⟨shiftsSlot_of_shift fun _ _ => shift_sla .., shiftsSlot_of_shift fun _ _ => shift_sra ..,
    shiftsSlot_of_shift fun _ _ => shift_swap .., shiftsSlot_of_shift fun _ _ => shift_srl ..,
    fun t => ⟨decodes_shiftInstr .sla t, decodes_shiftInstr .sra t, decodes_shiftInstr .swap t,
      decodes_shiftInstr .srl t⟩⟩

/-! ## BIT, RES and SET -/

/-- BIT on a byte, from whichever slot it was read, writes the flags `Z 0 1 -` and keeps A (R201, R202). -/
theorem setsA_bit {b : Oct} {i : Instr} {s : State} {v : Byte}
    (hexec : exec i s = .next { s with f := writeFlags s.f (some (!v.getLsbD b.code)) (some false) (some true) none }) :
    SetsA i s s.a (!v.getLsbD b.code) false true (s.flag .c) := setsA_of_exec hexec

/-- Settles O42: the three cases of the slot are the three cases of its read. -/
theorem bitTestsOneBit : Obligations.BitTestsOneBit := by
  refine ⟨fun b => ⟨fun r s => setsA_bit ?_, fun s c hc => setsA_bit ?_, fun s f hf => ?_⟩,
    fun b t => decodes_of_encode fun sl => encode_bit sl b t⟩
  · rw [exec_bit, bitSlot, readT8, andThen_next]
  · rw [exec_bit, bitSlot, readT8, memRead_of_cell hc, andThen_next]
  · rw [exec_bit, bitSlot, readT8, memRead, hf, andThen_fault, andThen_fault]

theorem getLsbD_one_shiftLeft (k : Nat) {j : Nat} (hj : j < 8) : (1#8 <<< k).getLsbD j = decide (j = k) := by
  rw [← BitVec.twoPow_eq, BitVec.getLsbD_twoPow]
  by_cases h : j = k
  · simp [← h, hj]
  · simp [h, Ne.symm h]

theorem bitPut_false (v : Byte) (k : Nat) : BitPut v (v &&& ~~~(1#8 <<< k)) k false := by
  intro j hj
  rw [BitVec.getLsbD_and, BitVec.getLsbD_not, getLsbD_one_shiftLeft k hj]
  by_cases h : j = k <;> simp [h, hj]

theorem bitPut_true (v : Byte) (k : Nat) : BitPut v (v ||| (1#8 <<< k)) k true := by
  intro j hj
  rw [BitVec.getLsbD_or, getLsbD_one_shiftLeft k hj]
  by_cases h : j = k <;> simp [h]

/-- An instruction that reads a slot and writes it back with one bit put does so on every slot. -/
theorem putsBit_of_exec {op : Slot → Instr} {put : Byte → Byte} {k : Nat} {b : Bool}
    (hexec : ∀ t s, exec (op t) s = andThen (readT8 s t) fun v => writeT8 s t (put v))
    (hput : ∀ v, BitPut v (put v) k b) : PutsBit op k b := by
  refine ⟨fun r s => ⟨_, hput _, ?_⟩, fun s c hc => ⟨_, hput _, ?_⟩, fun s f hf => ?_⟩
  · rw [hexec, readT8, andThen_next, writeT8]
  · rw [hexec, readT8, memRead_of_cell hc, andThen_next, writeT8, memWrite_of_cell hc]
  · rw [hexec, readT8, memRead, hf, andThen_fault, andThen_fault]

/-- Settles O43: RES and SET put one bit, by `bitPut_false` and `bitPut_true`. -/
theorem resAndSetWriteOneBit : Obligations.ResAndSetWriteOneBit :=
  ⟨fun b => ⟨putsBit_of_exec (exec_res b) (bitPut_false · _), putsBit_of_exec (exec_set b) (bitPut_true · _)⟩,
    fun b t => ⟨decodes_of_encode fun sl => encode_res sl b t, decodes_of_encode fun sl => encode_set sl b t⟩⟩

end Sys2Proof.Machine

/-! Statements about control transfer (spec/43_control.md): the jumps, then what a push or a pop makes of an instruction
(20_memory.md R66, R67), the calls and the returns, and a return after a call. -/

namespace Sys2Proof.Machine

/-! ## Jumps and conditions -/

/-- A conditional jump writes PC or leaves it, as one write (43_control.md R222, R225). -/
theorem ite_next_setPC (p : Prop) [Decidable p] (a : Word) (s : State) :
    (if p then .next { s with pc := a } else .next s : Out State) = .next { s with pc := if p then a else s.pc } := by
  split <;> rfl

/-- The target of a relative jump is the signed sum modulo 65536 (R224, 00_scope.md R8). -/
theorem jumpRel_eq (e : Byte) (s : State) :
    jumpRel e s = .next { s with pc := BitVec.ofInt 16 ((s.pc.toNat : Int) + e.toInt) } := by
  rw [jumpRel, trunc16, sext8_eq_toInt]

/-- JR cc is JR under its condition (R225). -/
theorem exec_jrIfInstr (cc : Cond) (e : Byte) (s : State) :
    exec (jrIfInstr e cc) s = if condHolds s cc then jumpRel e s else .next s := exec_instrOf (.jrIf cc e) s

/-- Settles O50: a condition is a bit of F or the bit's negation, and a conditional jump is the jump under its condition
(`ite_next_setPC`). -/
theorem jumpsSetPcWhenTaken : Obligations.JumpsSetPcWhenTaken := by
  refine ⟨fun s => ⟨.of_eq (Bool.not_eq_true' _), .rfl, .of_eq (Bool.not_eq_true' _), .rfl⟩,
    fun a s => exec_instrOf (.jp a) s, fun s => exec_instrOf .jpHL s,
    fun e s => (exec_instrOf (.jr e) s).trans (jumpRel_eq e s),
    fun cc a s => (exec_instrOf (.jpIf cc a) s).trans (ite_next_setPC _ a s), fun cc e s => ?_,
    fun _ => decodes_of_encode fun _ => rfl, decodes_of_encode fun _ => rfl, fun _ => decodes_of_encode fun _ => rfl,
    fun cc a => ?_, fun cc e => ?_⟩
  · rw [exec_jrIfInstr, jumpRel_eq, ite_next_setPC]
  · exact decodes_of_encode fun _ => by cases cc <;> rfl
  · exact decodes_of_encode fun _ => by cases cc <;> rfl

/-! ## Pushes and pops -/

theorem sub_one_sub_one (w : Word) : w - 1 - 1 = w - 2 := by bv_omega

theorem add_one_add_one (w : Word) : w + 1 + 1 = w + 2 := by bv_omega

/-- A push where both stack addresses have a cell (20_memory.md R66). -/
theorem push16_of_cells {s : State} {c1 c2 : CellRef} (v : Word) (h1 : s.cell (s.sp - 1) = .next c1)
    (h2 : s.cell (s.sp - 2) = .next c2) :
    push16 s v = .next { (s.setByte c1 (hi v)).setByte c2 (lo v) with sp := s.sp - 2 } := by
  rw [← sub_one_sub_one] at h2 ⊢
  exact push16_next_iff.mpr ⟨c1, c2, h1, h2, rfl⟩

/-- A push faults as its first failing write does (R66, 60_exceptions.md R313 item 4). -/
theorem push16_fault_iff {s : State} {v : Word} {f : Fault} : push16 s v = .fault f ↔
    s.cell (s.sp - 1) = .fault f ∨ ∃ c1, s.cell (s.sp - 1) = .next c1 ∧ s.cell (s.sp - 2) = .fault f := by
  rw [← outKind_fault, push16_kind, pushAddrs, sub_one_sub_one]
  simp [tryAll, andThen_fault_iff]

/-- A pop where both stack addresses have a cell (R67). -/
theorem pop16_of_cells {s : State} {c1 c2 : CellRef} (h1 : s.cell s.sp = .next c1) (h2 : s.cell (s.sp + 1) = .next c2) :
    pop16 s = .next (join (s.byteAt c2) (s.byteAt c1), { s with sp := s.sp + 2 }) := by
  rw [← add_one_add_one]
  exact pop16_next_iff.mpr ⟨c1, c2, h1, h2, rfl⟩

/-- A pop faults as its first failing read does (R67, R313 item 4). -/
theorem pop16_fault_iff {s : State} {f : Fault} : pop16 s = .fault f ↔
    s.cell s.sp = .fault f ∨ ∃ c1, s.cell s.sp = .next c1 ∧ s.cell (s.sp + 1) = .fault f := by
  rw [← outKind_fault, pop16_kind, popAddrs]
  simp [tryAll, andThen_fault_iff]

/-- An instruction that is a push and then an update of registers. -/
theorem pushes_of_exec {i : Instr} {on : State → Prop} {w : State → Word} {post : State → State}
    (hexec : ∀ s, on s → exec i s = andThen (push16 s (w s)) fun t => .next (post t)) : Pushes i on w post := by
  refine ⟨fun s c1 c2 hon h1 h2 => ?_, fun s f hon h1 => ?_, fun s c1 f hon h1 h2 => ?_⟩
  · rw [hexec s hon, push16_of_cells _ h1 h2, andThen_next]
  · rw [hexec s hon, push16_fault_iff.mpr (.inl h1), andThen_fault]
  · rw [hexec s hon, push16_fault_iff.mpr (.inr ⟨c1, h1, h2⟩), andThen_fault]

/-- An instruction that is a pop and then an update of registers. -/
theorem pops_of_exec {i : Instr} {on : State → Prop} {post : State → Word → State}
    (hexec : ∀ s, on s → exec i s = andThen (pop16 s) fun r => .next (post r.2 r.1)) : Pops i on post := by
  refine ⟨fun s c1 c2 hon h1 h2 => ?_, fun s f hon h1 => ?_, fun s c1 f hon h1 h2 => ?_⟩
  · rw [hexec s hon, pop16_of_cells h1 h2, andThen_next]
  · rw [hexec s hon, pop16_fault_iff.mpr (.inl h1), andThen_fault]
  · rw [hexec s hon, pop16_fault_iff.mpr (.inr ⟨c1, h1, h2⟩), andThen_fault]

/-! ## Calls -/

/-- CALL cc is CALL under its condition (43_control.md R227). -/
theorem exec_callIfInstr (cc : Cond) (a : Word) (s : State) :
    exec (callIfInstr a cc) s = if condHolds s cc then call a s else .next s := exec_instrOf (.callIf cc a) s

/-- RST y is a call of its vector (R231). -/
theorem exec_rstInstr (y : Oct) (s : State) : exec (rstInstr y) s = call (BitVec.ofNat 16 (8 * y.code)) s := by
  rw [Nat.mul_comm]
  exact exec_instrOf (.rst y) s

/-- Settles O51: each call that is taken is `call`, a push of PC and then a write of PC. -/
theorem callsPushTheReturnAddress : Obligations.CallsPushTheReturnAddress :=
  ⟨fun a => pushes_of_exec fun s _ => exec_instrOf (.call a) s,
    fun cc a => pushes_of_exec fun s hcc => (exec_callIfInstr cc a s).trans (if_pos hcc),
    fun cc a s hcc => (exec_callIfInstr cc a s).trans (if_neg (Bool.eq_false_iff.mp hcc)),
    fun y => pushes_of_exec fun s _ => exec_rstInstr y s,
    fun _ => decodes_of_encode fun _ => rfl, fun cc _ => decodes_of_encode fun _ => by cases cc <;> rfl,
    fun y => decodes_of_encode fun _ => by cases y <;> rfl⟩

/-! ## Returns -/

/-- RET cc is RET under its condition (R229). -/
theorem exec_retIfInstr (cc : Cond) (s : State) :
    exec (retIfInstr cc) s = if condHolds s cc then ret s else .next s := exec_instrOf (.retIf cc) s

/-- RETI is a pop into PC and a set of ime (R230). -/
theorem exec_reti (s : State) :
    exec .reti s = andThen (pop16 s) fun r => .next { r.2 with pc := r.1, ime := true } :=
  (exec_instrOf .reti s).trans (andThen_assoc ..)

/-- Settles O52: each return that is taken is a pop and then a write of PC, and of ime for RETI. -/
theorem returnsPopPc : Obligations.ReturnsPopPc :=
  ⟨pops_of_exec fun s _ => exec_instrOf .ret s,
    fun cc => pops_of_exec fun s hcc => (exec_retIfInstr cc s).trans (if_pos hcc),
    fun cc s hcc => (exec_retIfInstr cc s).trans (if_neg (Bool.eq_false_iff.mp hcc)),
    pops_of_exec fun s _ => exec_reti s,
    decodes_of_encode fun _ => rfl, decodes_of_encode fun _ => rfl,
    fun cc => decodes_of_encode fun _ => by cases cc <;> rfl⟩

/-! ## A return after a call -/

/-- What a push leaves in its two cells, where they differ (20_memory.md R66). -/
theorem byteAt_of_push16 {s t : State} {v : Word} {c1 c2 : CellRef} (hs : s.wf = true)
    (h1 : s.cell (s.sp - 1) = .next c1) (h2 : s.cell (s.sp - 2) = .next c2) (hne : c1 ≠ c2)
    (ht : push16 s v = .next t) : t.byteAt c1 = hi v ∧ t.byteAt c2 = lo v := by
  rw [push16_of_cells v h1 h2] at ht
  cases ht
  have hstores := State.stores_wf_of_wf hs
  have h2' : (s.setByte c1 (hi v)).cell (s.sp - 2) = .next c2 := by rw [State.setByte_cell, h2]
  constructor
  · calc ((s.setByte c1 (hi v)).setByte c2 (lo v)).byteAt c1 = (s.setByte c1 (hi v)).byteAt c1 :=
          State.byteAt_setByte_ne _ _ hne
      _ = hi v := (State.byteAt_setByte _ hstores h1).trans (if_pos rfl)
  · exact (State.byteAt_setByte _ (State.setByte_stores_wf _ hstores h1) h2').trans (if_pos rfl)

/-- A pop from any state that kept the SP and memory a push left: it answers the word pushed, and SP is back (R66,
R67). -/
theorem pop16_of_push16 {s t u : State} {v : Word} {c1 c2 : CellRef} (hs : s.wf = true)
    (h1 : s.cell (s.sp - 1) = .next c1) (h2 : s.cell (s.sp - 2) = .next c2) (hne : c1 ≠ c2)
    (ht : push16 s v = .next t) (hsp : u.sp = t.sp) (hstores : u.stores = t.stores) (hatt : u.attached = t.attached) :
    pop16 u = .next (v, { u with sp := s.sp }) := by
  obtain ⟨hhi, hlo⟩ := byteAt_of_push16 hs h1 h2 hne ht
  have hbyte (c : CellRef) : u.byteAt c = t.byteAt c := by rw [State.byteAt, State.byteAt, hstores]
  have hcell (a : Word) : u.cell a = s.cell a := by
    rw [← (push16_wrote ht).cell]
    exact State.cell_congr (by rw [hstores]) hatt a
  rw [push16_of_cells v h1 h2] at ht
  cases ht
  have hu1 : u.cell u.sp = .next c2 := by rw [hcell, hsp, h2]
  have hu2 : u.cell (u.sp + 1) = .next c1 := by
    rw [hcell, hsp, ← h1]
    congr 1
    bv_omega
  have hback : u.sp + 2 = s.sp := by rw [hsp]; bv_omega
  rw [pop16_of_cells hu1 hu2, hbyte, hbyte, hhi, hlo, join_hi_lo, hback]

/-- CALL and RST are `call`, of the operand or of the vector. -/
theorem exists_exec_eq_call {i : Instr} (hi : (∃ a, i = .call_a16 a) ∨ ∃ y, i = rstInstr y) (s : State) :
    ∃ a, exec i s = call a s := by
  obtain ⟨a, rfl⟩ | ⟨y, rfl⟩ := hi
  · exact ⟨a, exec_instrOf (.call a) s⟩
  · exact ⟨_, exec_rstInstr y s⟩

/-- Settles O25: the call pushed the PC after it, and RET pops what was pushed (`pop16_of_push16`). -/
theorem callThenReturnContinuesAfterTheCall : Obligations.CallThenReturnContinuesAfterTheCall := by
  intro i s u c1 c2 hs hi h1 h2 hne
  obtain ⟨a, hcall⟩ := exists_exec_eq_call hi s
  have hpush := push16_of_cells s.pc h1 h2
  rw [call, hpush, andThen_next] at hcall
  refine ⟨_, hcall, fun hsp hstores hatt => ?_⟩
  calc exec .ret u = ret u := exec_instrOf .ret u
    _ = .next { u with pc := s.pc, sp := s.sp } := by
      rw [ret, pop16_of_push16 hs h1 h2 hne hpush hsp hstores hatt, andThen_next]

end Sys2Proof.Machine

/-! Statements about loads and the stack (spec/44_loads_stack.md): what one byte stored or loaded makes of an
instruction, the 8-bit loads, the 16-bit loads, PUSH and POP, and a POP after a PUSH. -/

namespace Sys2Proof.Machine

/-! ## One byte stored or loaded -/

theorem andThen_next_self {α : Type} (o : Out α) : andThen o .next = o := by cases o <;> rfl

/-- An instruction that is a write of one byte and then an update of registers. -/
theorem storesByte_of_exec {i : Instr} {addr : State → Word} {v : State → Byte} {post : State → State}
    (hexec : ∀ s, exec i s = andThen (memWrite s (addr s) (v s)) fun t => .next (post t)) :
    StoresByte i addr v post := by
  refine ⟨fun s c hc => ?_, fun s f hf => ?_⟩
  · rw [hexec, memWrite_of_cell hc, andThen_next]
  · rw [hexec, memWrite, hf, andThen_fault, andThen_fault]

/-- An instruction that is a write of one byte and nothing more. -/
theorem storesByte_of_memWrite {i : Instr} {addr : State → Word} {v : State → Byte}
    (hexec : ∀ s, exec i s = memWrite s (addr s) (v s)) : StoresByte i addr v id :=
  storesByte_of_exec fun s => (hexec s).trans (andThen_next_self _).symm

/-- An instruction that is a read of one byte and then an update of registers. -/
theorem loadsByte_of_exec {i : Instr} {addr : State → Word} {post : State → Byte → State}
    (hexec : ∀ s, exec i s = andThen (memRead s (addr s)) fun v => .next (post s v)) : LoadsByte i addr post := by
  refine ⟨fun s c hc => ?_, fun s f hf => ?_⟩
  · rw [hexec, memRead_of_cell hc, andThen_next]
  · rw [hexec, memRead, hf, andThen_fault, andThen_fault]

/-! ## Loads of a slot -/

theorem decodes_ldRegInstr (r : Reg8) (t : Slot) :
    Decodes [BitVec.ofNat 8 (0x40 + 8 * r.code + t.code)] (ldRegInstr r t) := by
  refine decodes_of_encode fun _ => ?_
  cases r <;> (cases t with | reg q => cases q <;> rfl | atHL => rfl)

theorem decodes_ldStoreInstr (r : Reg8) : Decodes [BitVec.ofNat 8 (0x70 + r.code)] (ldStoreInstr r) :=
  decodes_of_encode fun _ => by cases r <;> rfl

theorem decodes_ldImmInstr (t : Slot) (n : Byte) :
    Decodes [BitVec.ofNat 8 (0x06 + 8 * t.code), n] (ldImmInstr n t) := by
  refine decodes_of_encode fun _ => ?_
  cases t with
  | reg r => cases r <;> rfl
  | atHL => rfl

/-- Settles O44: with (HL) on one side a load of a slot is one read or one write at HL, and otherwise a register
write. -/
theorem byteLoadsCopyTheirSource : Obligations.ByteLoadsCopyTheirSource :=
  ⟨fun r q s => exec_instrOf (.ldReg r (.reg q)) s, fun r => loadsByte_of_exec (exec_instrOf (.ldReg r .atHL)),
    fun r => storesByte_of_memWrite (exec_instrOf (.ldStore r)), fun r n s => exec_instrOf (.ldImm (.reg r) n) s,
    fun n => storesByte_of_memWrite (exec_instrOf (.ldImm .atHL n)), decodes_ldRegInstr, decodes_ldStoreInstr,
    decodes_ldImmInstr⟩

/-! ## Loads of A through a pair -/

/-- The stores of A through a pair access the address before HL moves (44_loads_stack.md R256, R257, R260, R261). -/
theorem storesByte_ldToIndInstr (i : Indirect) :
    StoresByte (ldToIndInstr i) (indirectAddr · i) State.a (moveIndirect · i) :=
  storesByte_of_exec (exec_instrOf (.ldToInd i))

/-- The loads of A through a pair access the address before HL moves (R258, R259, R262, R263). -/
theorem loadsByte_ldFromIndInstr (i : Indirect) :
    LoadsByte (ldFromIndInstr i) (indirectAddr · i) fun s v => moveIndirect { s with a := v } i :=
  loadsByte_of_exec (exec_instrOf (.ldFromInd i))

/-- Settles O46: `storesByte_ldToIndInstr` and `loadsByte_ldFromIndInstr` on each of the four pairs. -/
theorem indirectLoadsUseOldHL : Obligations.IndirectLoadsUseOldHL :=
  ⟨storesByte_ldToIndInstr .bc, storesByte_ldToIndInstr .de, loadsByte_ldFromIndInstr .bc,
    loadsByte_ldFromIndInstr .de, storesByte_ldToIndInstr .hlInc, storesByte_ldToIndInstr .hlDec,
    loadsByte_ldFromIndInstr .hlInc, loadsByte_ldFromIndInstr .hlDec,
    decodes_of_encode fun _ => rfl, decodes_of_encode fun _ => rfl, decodes_of_encode fun _ => rfl,
    decodes_of_encode fun _ => rfl, decodes_of_encode fun _ => rfl, decodes_of_encode fun _ => rfl,
    decodes_of_encode fun _ => rfl, decodes_of_encode fun _ => rfl⟩

/-! ## Loads of A in the 0xFF00 window and at an absolute address -/

/-- An address of the 0xFF00 window as an exact integer, which does not wrap (30_encoding.md R92). -/
theorem highPage_eq (k : Byte) : highPage k = BitVec.ofNat 16 (0xFF00 + k.toNat) := by
  rw [highPage]
  bv_omega

/-- Settles O47: each is `storeA` or `loadA`, with `highPage_eq` for the addresses of the window. -/
theorem highPageAndAbsoluteLoads : Obligations.HighPageAndAbsoluteLoads := by
  simp only [Obligations.HighPageAndAbsoluteLoads, ← highPage_eq]
  exact ⟨fun n =>
      ⟨storesByte_of_memWrite (exec_instrOf (.ldhStore n)), loadsByte_of_exec (exec_instrOf (.ldhLoad n))⟩,
    storesByte_of_memWrite (exec_instrOf .ldCStore), loadsByte_of_exec (exec_instrOf .ldCLoad),
    fun a =>
      ⟨storesByte_of_memWrite (exec_instrOf (.ldAbsStore a)), loadsByte_of_exec (exec_instrOf (.ldAbsLoad a))⟩,
    fun _ => ⟨decodes_of_encode fun _ => rfl, decodes_of_encode fun _ => rfl⟩,
    decodes_of_encode fun _ => rfl, decodes_of_encode fun _ => rfl,
    fun _ => ⟨decodes_of_encode fun _ => rfl, decodes_of_encode fun _ => rfl⟩⟩

/-! ## Loads of a word -/

/-- LD rr,n16 writes the pair and nothing else (44_loads_stack.md R255). -/
theorem exec_ldPairInstr (rr : Pair) (w : Word) (s : State) :
    exec (ldPairInstr w rr) s = .next (writePair s rr w) := exec_instrOf (.ldPair rr w) s

/-- Settles O45: `exec_ldPairInstr` on each of the four pairs, and the operation of LD SP,HL. -/
theorem wordLoadsSetThePair : Obligations.WordLoadsSetThePair :=
  ⟨fun w s => ⟨exec_ldPairInstr .bc w s, exec_ldPairInstr .de w s, exec_ldPairInstr .hl w s,
      exec_ldPairInstr .sp w s, exec_instrOf .ldSPHL s⟩,
    fun rr _ => decodes_of_encode fun _ => by cases rr <;> rfl, decodes_of_encode fun _ => rfl⟩

/-- A 16-bit write faults as its first failing write does (20_memory.md R63, 60_exceptions.md R313 item 4). -/
theorem memWrite16_fault_iff {s : State} {a v : Word} {f : Fault} : memWrite16 s a v = .fault f ↔
    s.cell a = .fault f ∨ ∃ c1, s.cell a = .next c1 ∧ s.cell (a + 1) = .fault f := by
  rw [← outKind_fault, memWrite16_kind]
  simp [tryAll, andThen_fault_iff]

theorem exec_ld_atA16_SP (a : Word) (s : State) : exec (.ld_atA16_SP a) s = memWrite16 s a s.sp :=
  exec_instrOf (.ldAbsSP a) s

/-- Settles O48: the instruction is the 16-bit write of SP, which answers a next state or its first failing write's
fault. -/
theorem storeSpIsLittleEndian : Obligations.StoreSpIsLittleEndian := by
  refine ⟨fun a s c1 c2 h1 h2 => ?_, fun a s f h1 => ?_, fun a s c1 f h1 h2 => ?_,
    fun _ => decodes_of_encode fun _ => rfl⟩ <;> rw [exec_ld_atA16_SP]
  · exact memWrite16_next_iff.mpr ⟨c1, c2, h1, h2, rfl⟩
  · exact memWrite16_fault_iff.mpr (.inl h1)
  · exact memWrite16_fault_iff.mpr (.inr ⟨c1, h1, h2⟩)

/-! ## PUSH and POP -/

/-- PUSH rr is a push of the pair and nothing more (44_loads_stack.md R272). -/
theorem pushes_pushInstr (rr : StackPair) : Pushes (pushInstr rr) (fun _ => True) (readStackPair · rr) id :=
  pushes_of_exec fun s _ => (exec_instrOf (.push rr) s).trans (andThen_next_self _).symm

/-- POP rr is a pop and then a write of the pair (R273). -/
theorem pops_popInstr (rr : StackPair) : Pops (popInstr rr) (fun _ => True) (writeStackPair · rr) :=
  pops_of_exec fun s _ => exec_instrOf (.pop rr) s

/-- POP AF writes F as the policy of the state it starts from says (R274, 10_state.md R23). -/
theorem pops_pop_AF (p : FLowPolicy) :
    Pops .pop_AF (fun s => s.params.fLow = p) fun t w => { t with a := hi w, f := fWritten p (lo w) } := by
  obtain ⟨hnext, hfault1, hfault2⟩ := pops_popInstr .af
  refine ⟨fun s c1 c2 hp h1 h2 => ?_, fun s f _ => hfault1 s f trivial, fun s c1 f _ => hfault2 s c1 f trivial⟩
  subst hp
  exact hnext s c1 c2 trivial h1 h2

/-- Settles O49: `pushes_pushInstr` and `pops_popInstr` on each pair, and `pops_pop_AF` under each policy. -/
theorem pushAndPopMoveTheStack : Obligations.PushAndPopMoveTheStack :=
  ⟨pushes_pushInstr .bc, pushes_pushInstr .de, pushes_pushInstr .hl, pushes_pushInstr .af,
    pops_popInstr .bc, pops_popInstr .de, pops_popInstr .hl, pops_pop_AF .preserve, pops_pop_AF .zero,
    fun rr => ⟨decodes_of_encode fun _ => by cases rr <;> rfl, decodes_of_encode fun _ => by cases rr <;> rfl⟩⟩

/-! ## A POP after a PUSH -/

/-- A byte whose bits 3:0 are zero where the policy is Zero is one that a whole-byte write of F leaves as it is
(10_state.md R23). -/
theorem fWritten_eq_self {p : FLowPolicy} {v : Byte} (h : p = .zero → v &&& 0x0F = 0) : fWritten p v = v := by
  cases p with
  | preserve => rfl
  | zero =>
    calc v &&& 0xF0
      _ = v &&& 0xF0 ||| v &&& 0x0F := by rw [h rfl]; exact BitVec.or_zero.symm
      _ = v &&& (0xF0 ||| 0x0F) := BitVec.and_or_distrib_left.symm
      _ = v := BitVec.and_allOnes

theorem State.fLowOk_of_wf {s : State} (h : s.wf = true) : s.fLowOk = true := by
  simp only [State.wf, Bool.and_eq_true] at h
  obtain ⟨-, hlow⟩ := h
  exact hlow

/-- A pair written with what it holds leaves the state as it is; for AF, where F obeys F_LOW_POLICY. -/
theorem writeStackPair_readStackPair {s : State} (hlow : s.fLowOk = true) (rr : StackPair) :
    writeStackPair s rr (readStackPair s rr) = s := by
  cases rr with
  | bc | de | hl =>
    simp only [writeStackPair, writePair, readStackPair, State.bc, State.de, State.hl, hi_join, lo_join]
  | af =>
    simp only [writeStackPair, writeF, readStackPair, State.af, hi_join, lo_join,
      fWritten_eq_self (State.fLowOk_iff.mp hlow)]

/-- Settles O24: the POP's pop answers the pair's own value and SP back (`pop16_of_push16`), in a state that differs
from the first in memory only, and writing it there changes nothing. -/
theorem pushThenPopRestores : Obligations.PushThenPopRestores := by
  intro rr s c1 c2 hs h1 h2 hne
  have hpush := push16_of_cells (readStackPair s rr) h1 h2
  have hlow := State.fLowOk_of_wf hs
  have hrestore (m : List FlatStore) :
      writeStackPair { s with stores := m } rr (readStackPair s rr) = { s with stores := m } :=
    writeStackPair_readStackPair (s := { s with stores := m }) hlow rr
  refine ⟨_, (exec_instrOf (.push rr) s).trans hpush, (exec_instrOf (.pop rr) _).trans ?_⟩
  rw [formMeaning, popPair, pop16_of_push16 hs h1 h2 hne hpush rfl rfl rfl, andThen_next]
  exact congrArg Host.Outcome.next (hrestore _)

end Sys2Proof.Machine

/-! Statements about the system instructions and the run state (spec/45_system.md): the step commutes with a change of the
state bits, each instruction's writes of the bits, NOP, HALT, DI, EI and STOP, and the unused opcodes. -/

namespace Sys2Proof.Machine

/-! ## A change of the state bits

No operation but those of HALT, STOP, DI, EI and RETI reads or writes ime, halted or stopped: run after such a change, it
answers what it answers before it, with the change made to the result. -/

/-- A change of the three state bits, each by a function of itself. -/
structure BitMap where
  ime : Bool → Bool
  halted : Bool → Bool
  stopped : Bool → Bool

/-- The state with its state bits changed. -/
def State.mapBits (m : BitMap) (s : State) : State :=
  { s with ime := m.ime s.ime, halted := m.halted s.halted, stopped := m.stopped s.stopped }

/-- A sequence answers a changed value where its first part does, and its rest from one. -/
theorem andThen_eq_mapOut {α β : Type} {f : α → α} {g : β → β} {o o' : Out α} {k k' : α → Out β}
    (ho : o' = mapOut f o) (hk : ∀ v, k' (f v) = mapOut g (k v)) : andThen o' k' = mapOut g (andThen o k) := by
  subst ho
  cases o with
  | next v => exact hk v
  | fault _ | refused _ => rfl

/-- A sequence answers a changed value where its first part answers the same and its rest a changed value. -/
theorem andThen_eq_mapOut_of_eq {α β : Type} {g : β → β} {o o' : Out α} {k k' : α → Out β}
    (ho : o' = o) (hk : ∀ v, k' v = mapOut g (k v)) : andThen o' k' = mapOut g (andThen o k) :=
  andThen_eq_mapOut (f := id) (ho.trans (andThen_next_self o).symm) hk

section
variable (m : BitMap) (s : State)

theorem memRead_mapBits (a : Word) : memRead (s.mapBits m) a = memRead s a := rfl

theorem readT8_mapBits (x : Slot) : readT8 (s.mapBits m) x = readT8 s x := by
  cases x with
  | reg r => cases r <;> rfl
  | atHL => rfl

theorem condHolds_mapBits (cc : Cond) : condHolds (s.mapBits m) cc = condHolds s cc := by cases cc <;> rfl

theorem indirectAddr_mapBits (i : Indirect) : indirectAddr (s.mapBits m) i = indirectAddr s i := by cases i <;> rfl

theorem readStackPair_mapBits (rr : StackPair) : readStackPair (s.mapBits m) rr = readStackPair s rr := by
  cases rr <;> rfl

theorem writeReg_mapBits (r : Reg8) (v : Byte) : writeReg (s.mapBits m) r v = (writeReg s r v).mapBits m := by
  cases r <;> rfl

theorem writeStackPair_mapBits (rr : StackPair) (v : Word) :
    writeStackPair (s.mapBits m) rr v = (writeStackPair s rr v).mapBits m := by
  cases rr <;> rfl

theorem moveIndirect_mapBits (i : Indirect) : moveIndirect (s.mapBits m) i = (moveIndirect s i).mapBits m := by
  cases i <;> rfl

theorem memWrite_mapBits (a : Word) (v : Byte) :
    memWrite (s.mapBits m) a v = mapOut (State.mapBits m) (memWrite s a v) :=
  andThen_eq_mapOut_of_eq rfl fun _ => rfl

theorem writeT8_mapBits (x : Slot) (v : Byte) :
    writeT8 (s.mapBits m) x v = mapOut (State.mapBits m) (writeT8 s x v) := by
  cases x with
  | reg r => exact congrArg Host.Outcome.next (writeReg_mapBits m s r v)
  | atHL => exact memWrite_mapBits m s _ v

theorem ld8_mapBits (dst src : Slot) : ld8 dst src (s.mapBits m) = mapOut (State.mapBits m) (ld8 dst src s) :=
  andThen_eq_mapOut_of_eq (readT8_mapBits m s src) fun v => writeT8_mapBits m s dst v

theorem push16_mapBits (v : Word) : push16 (s.mapBits m) v = mapOut (State.mapBits m) (push16 s v) :=
  andThen_eq_mapOut (memWrite_mapBits m s _ _) fun t =>
    andThen_eq_mapOut (memWrite_mapBits m t _ _) fun _ => rfl

theorem pop16_mapBits : pop16 (s.mapBits m) = mapOut (Prod.map id (State.mapBits m)) (pop16 s) :=
  andThen_eq_mapOut_of_eq rfl fun _ => andThen_eq_mapOut_of_eq rfl fun _ => rfl

theorem call_mapBits (a : Word) : call a (s.mapBits m) = mapOut (State.mapBits m) (call a s) :=
  andThen_eq_mapOut (push16_mapBits m s _) fun _ => rfl

theorem ret_mapBits : ret (s.mapBits m) = mapOut (State.mapBits m) (ret s) :=
  andThen_eq_mapOut (pop16_mapBits m s) fun _ => rfl

/-- A conditional transfer commutes with a change of the state bits where the transfer does. -/
theorem ite_condHolds_mapBits (cc : Cond) {op : State → Out State}
    (hop : op (s.mapBits m) = mapOut (State.mapBits m) (op s)) :
    (if condHolds (s.mapBits m) cc then op (s.mapBits m) else .next (s.mapBits m)) =
      mapOut (State.mapBits m) (if condHolds s cc then op s else .next s) := by
  rw [condHolds_mapBits]
  split
  · exact hop
  · rfl

end

/-- A change of the state bits that does not undo what the form writes in them or change what it reads of them. -/
structure BitMap.Suits (m : BitMap) (φ : Form) : Prop where
  di : φ = .di → m.ime false = false
  ei : φ = .ei ∨ φ = .reti → m.ime true = true
  halt : φ = .halt → m.halted true = true ∧ ∀ b, m.ime b = b
  stop : φ = .stop → m.stopped true = true

/-- A form's meaning commutes with a change of the state bits that suits it. -/
theorem formMeaning_mapBits {m : BitMap} {φ : Form} (hm : m.Suits φ) (s : State) :
    formMeaning φ (s.mapBits m) = mapOut (State.mapBits m) (formMeaning φ s) := by
  cases φ with
  | alu _ _ | bit _ _ => exact andThen_eq_mapOut_of_eq (readT8_mapBits m s _) fun _ => rfl
  | inc _ | dec _ | shift _ _ =>
    exact andThen_eq_mapOut_of_eq (readT8_mapBits m s _) fun v =>
      andThen_eq_mapOut (writeT8_mapBits m s _ _) fun _ => rfl
  | res _ _ | set _ _ =>
    exact andThen_eq_mapOut_of_eq (readT8_mapBits m s _) fun _ => writeT8_mapBits m s _ _
  | ldReg _ _ | ldStore _ => exact ld8_mapBits m s _ _
  | ldImm _ _ => exact writeT8_mapBits m s _ _
  | aluImm _ _ | daa | cpl | scf | ccf | addSP _ | ldHLSP _ | ldSPHL | jp _ | jpHL | jr _ | nop => rfl
  | rotA op => cases op <;> rfl
  | addHL rr | incPair rr | decPair rr | ldPair rr _ => cases rr <;> rfl
  | ldToInd _ =>
    refine andThen_eq_mapOut ?_ fun t => congrArg Host.Outcome.next (moveIndirect_mapBits m t _)
    rw [indirectAddr_mapBits]
    exact memWrite_mapBits m s _ _
  | ldFromInd _ =>
    refine andThen_eq_mapOut_of_eq ?_ fun v => congrArg Host.Outcome.next (moveIndirect_mapBits m { s with a := v } _)
    rw [indirectAddr_mapBits, memRead_mapBits]
  | ldhStore _ | ldCStore | ldAbsStore _ => exact memWrite_mapBits m s _ _
  | ldhLoad _ | ldCLoad | ldAbsLoad _ => exact andThen_eq_mapOut_of_eq rfl fun _ => rfl
  | ldAbsSP _ => exact andThen_eq_mapOut (memWrite_mapBits m s _ _) fun t => memWrite_mapBits m t _ _
  | push rr =>
    rw [formMeaning, pushPair, readStackPair_mapBits]
    exact push16_mapBits m s _
  | pop _ =>
    exact andThen_eq_mapOut (pop16_mapBits m s) fun r => congrArg Host.Outcome.next (writeStackPair_mapBits m r.2 _ _)
  | jpIf cc _ | jrIf cc _ => exact ite_condHolds_mapBits m s cc rfl
  | call a | rst _ => exact call_mapBits m s _
  | callIf cc a => exact ite_condHolds_mapBits m s cc (call_mapBits m s a)
  | ret => exact ret_mapBits m s
  | retIf cc => exact ite_condHolds_mapBits m s cc (ret_mapBits m s)
  | reti =>
    have hei := hm.ei (.inr rfl)
    exact andThen_eq_mapOut (ret_mapBits m s) fun t => by simp [State.mapBits, mapOut, hei]
  | halt =>
    obtain ⟨hhalted, hime⟩ := hm.halt rfl
    simp [formMeaning, halt, State.mapBits, mapOut, hhalted, hime]
  | stop => simp [formMeaning, stop, State.mapBits, mapOut, hm.stop rfl]
  | di => simp [formMeaning, setIme, State.mapBits, mapOut, hm.di rfl]
  | ei => simp [formMeaning, setIme, State.mapBits, mapOut, hm.ei (.inl rfl)]
  | unused _ => rfl

theorem fetch8_mapBits (m : BitMap) (s : State) :
    fetch8 (s.mapBits m) = mapOut (Prod.map id (State.mapBits m)) (fetch8 s) :=
  andThen_eq_mapOut_of_eq rfl fun _ => rfl

theorem fetch16_mapBits (m : BitMap) (s : State) :
    fetch16 (s.mapBits m) = mapOut (Prod.map id (State.mapBits m)) (fetch16 s) :=
  andThen_eq_mapOut (fetch8_mapBits m s) fun r => andThen_eq_mapOut (fetch8_mapBits m r.2) fun _ => rfl

theorem fetchOperands_mapBits (m : BitMap) (sh : Shape) (s : State) :
    fetchOperands sh (s.mapBits m) = mapOut (Prod.map id (State.mapBits m)) (fetchOperands sh s) := by
  cases sh with
  | plain φ => rfl
  | imm8 _ | cbPage => exact andThen_eq_mapOut (fetch8_mapBits m s) fun _ => rfl
  | imm16 _ => exact andThen_eq_mapOut (fetch16_mapBits m s) fun _ => rfl
  | stop =>
    have hparams : (s.mapBits m).params = s.params := rfl
    rw [fetchOperands, fetchOperands, hparams]
    cases s.params.stopLen with
    | one => rfl
    | two => exact andThen_eq_mapOut (fetch8_mapBits m s) fun _ => rfl

/-- The fetch reads no state bit (30_encoding.md R89). -/
theorem fetchInstr_mapBits (m : BitMap) (s : State) :
    fetchInstr (s.mapBits m) = mapOut (Prod.map id (State.mapBits m)) (fetchInstr s) :=
  andThen_eq_mapOut (fetch8_mapBits m s) fun r => fetchOperands_mapBits m _ r.2

/-- Every instruction is the row of a form (30_encoding.md R81). -/
theorem exists_instrOf (i : Instr) : ∃ φ, instrOf φ = i := by
  obtain ⟨op, n, w, -, hi⟩ := exists_operands_of_decode (encodedInstructionDecodesBack .one i [])
  exact ⟨_, hi.symm⟩

/-- The step commutes with a change of the state bits that suits every form. -/
theorem step_mapBits {m : BitMap} (hm : ∀ φ, m.Suits φ) (s : State) :
    step (s.mapBits m) = mapOut (State.mapBits m) (step s) := by
  refine andThen_eq_mapOut (fetchInstr_mapBits m s) fun r => ?_
  obtain ⟨φ, hφ⟩ := exists_instrOf r.1
  simp only [Prod.map, id, ← hφ, exec_instrOf]
  exact formMeaning_mapBits (hm φ) r.2

/-- The change that keeps ime, and sets halted and stopped where `h` and `p` say. -/
def BitMap.latch (h p : Bool) : BitMap where
  ime b := b
  halted b := h || b
  stopped b := p || b

/-- No instruction clears halted or stopped (45_system.md R296), so setting them suits every form. -/
theorem BitMap.latch_suits (h p : Bool) (φ : Form) : (BitMap.latch h p).Suits φ where
  di _ := rfl
  ei _ := rfl
  halt _ := ⟨Bool.or_true h, fun _ => rfl⟩
  stop _ := Bool.or_true p

/-- Settles O13: setting halted and stopped suits every form, so it commutes with the step. -/
theorem runStateDoesNotChangeTheStep : Obligations.RunStateDoesNotChangeTheStep := by
  intro s h p
  have hlatch : { s with halted := h, stopped := p } =
      State.mapBits (.latch h p) { s with halted := false, stopped := false } := by
    simp [State.mapBits, BitMap.latch]
  rw [hlatch]
  exact step_mapBits (BitMap.latch_suits h p) _

/-! ## What an instruction writes in the state bits -/

/-- An instruction's frame: what its form may change. -/
theorem exec_frame {i : Instr} {s t : State} (h : exec i s = .next t) : ∃ φ, instrOf φ = i ∧ FormFrame φ s t := by
  obtain ⟨φ, rfl⟩ := exists_instrOf i
  rw [exec_instrOf] at h
  exact ⟨φ, rfl, formMeaning_frame h⟩

/-- The value ime has after an instruction, from its value before (45_system.md R298, 10_state.md R29). -/
theorem exec_ime {i : Instr} {s t : State} (h : exec i s = .next t) :
    t.ime = if i = .di then false else if i = .ei ∨ i = .reti then true else s.ime := by
  by_cases hdi : i = .di
  · subst hdi
    cases h
    rfl
  by_cases hei : i = .ei
  · subst hei
    cases h
    rfl
  by_cases hreti : i = .reti
  · subst hreti
    rw [exec_reti] at h
    obtain ⟨r, -, h⟩ := andThen_next_iff.mp h
    cases h
    rfl
  obtain ⟨φ, rfl, frame⟩ := exec_frame h
  rw [if_neg hdi, if_neg (not_or.mpr ⟨hei, hreti⟩)]
  exact frame.ime (ne_of_apply_ne instrOf hdi) (ne_of_apply_ne instrOf hei) (ne_of_apply_ne instrOf hreti)

/-- HALT alone sets halted, and nothing clears it (R291, R296). -/
theorem exec_halted {i : Instr} {s t : State} (h : exec i s = .next t) :
    t.halted = (s.halted || decide (i = .halt)) := by
  by_cases hhalt : i = .halt
  · subst hhalt
    cases h
    simp
  obtain ⟨φ, rfl, frame⟩ := exec_frame h
  rw [decide_eq_false hhalt, Bool.or_false]
  exact frame.halted (ne_of_apply_ne instrOf hhalt)

/-- STOP alone sets stopped, and nothing clears it (R292, R296). -/
theorem exec_stopped {i : Instr} {s t : State} (h : exec i s = .next t) :
    t.stopped = (s.stopped || decide (i = .stop)) := by
  by_cases hstop : i = .stop
  · subst hstop
    cases h
    simp
  obtain ⟨φ, rfl, frame⟩ := exec_frame h
  rw [decide_eq_false hstop, Bool.or_false]
  exact frame.stopped (ne_of_apply_ne instrOf hstop)

/-! ## Who reads ime -/

/-- The change that writes ime. -/
def BitMap.setIme (b : Bool) : BitMap where
  ime _ := b
  halted b := b
  stopped b := b

/-- A write of ime suits the forms that neither write nor read it. -/
theorem BitMap.setIme_suits {b : Bool} {φ : Form} (hdi : φ ≠ .di) (hei : φ ≠ .ei) (hreti : φ ≠ .reti)
    (hhalt : φ ≠ .halt) : (BitMap.setIme b).Suits φ where
  di h := absurd h hdi
  ei h := absurd h (not_or.mpr ⟨hei, hreti⟩)
  halt h := absurd h hhalt
  stop _ := rfl

/-- An instruction other than HALT, run with another ime, answers the same but for ime (R298). -/
theorem exec_with_ime {i : Instr} (hhalt : i ≠ .halt) (s : State) (b : Bool) : exec i { s with ime := b } =
    mapOut (fun t => { t with ime := if i = .di then false else if i = .ei ∨ i = .reti then true else b })
      (exec i s) := by
  by_cases hdi : i = .di
  · subst hdi
    rfl
  by_cases hei : i = .ei
  · subst hei
    rfl
  by_cases hreti : i = .reti
  · subst hreti
    rw [exec_reti, exec_reti]
    exact andThen_eq_mapOut (pop16_mapBits (.setIme b) s) fun _ => rfl
  obtain ⟨φ, rfl⟩ := exists_instrOf i
  rw [exec_instrOf, exec_instrOf, if_neg hdi, if_neg (not_or.mpr ⟨hei, hreti⟩)]
  have hsuits : (BitMap.setIme b).Suits φ := BitMap.setIme_suits (ne_of_apply_ne instrOf hdi)
    (ne_of_apply_ne instrOf hei) (ne_of_apply_ne instrOf hreti) (ne_of_apply_ne instrOf hhalt)
  exact formMeaning_mapBits hsuits s

/-- Settles O15: `exec_ime` for the writes, and `exec_with_ime` for the reads. -/
theorem imeIsWrittenByThreeAndReadByHalt : Obligations.ImeIsWrittenByThreeAndReadByHalt :=
  ⟨fun _ _ _ h => exec_ime h, fun _ s b hhalt => exec_with_ime hhalt s b⟩

/-! ## The run states -/

/-- Settles O14: `exec_halted` and `exec_stopped` for the instructions; no host operation but reset writes the two
bits. -/
theorem runStateTransitions : Obligations.RunStateTransitions := by
  refine ⟨fun s => ?_, fun i s t h => ⟨exec_halted h, exec_stopped h⟩, fun s => rfl,
    fun s r v b p => ⟨?_, rfl, rfl⟩, fun s f n h => ?_⟩
  · cases hstopped : s.stopped <;> cases hhalted : s.halted <;> simp [State.runState, hstopped, hhalted]
  · cases r <;> rfl
  · rw [run, h]

/-! ## NOP, HALT, DI, EI and STOP -/

theorem exec_halt (s : State) :
    exec .halt s = .next { s with halted := true, pc := if s.ime then s.pc else s.pc + 1 } := exec_instrOf .halt s

/-- Settles O53: each is its form's operation, and PC skips a byte in HALT where ime is false (`exec_halt`). -/
theorem nopHaltAndImeInstructions : Obligations.NopHaltAndImeInstructions := by
  refine ⟨fun s => ⟨exec_instrOf .nop s, exec_instrOf .di s, exec_instrOf .ei s⟩, fun s hime => ?_, fun s hime => ?_,
    decodes_of_encode fun _ => rfl, decodes_of_encode fun _ => rfl, decodes_of_encode fun _ => rfl,
    decodes_of_encode fun _ => rfl⟩
  · rw [exec_halt, if_pos hime]
  · rw [exec_halt, if_neg (Bool.eq_false_iff.mp hime)]

/-- One byte at PC that can be read. -/
theorem State.readsAtPC_singleton {s : State} {b : Byte} (h : memRead s s.pc = .next b) : s.ReadsAtPC [b] :=
  andThen_next_iff.mpr ⟨b, h, rfl⟩

/-- Two bytes from PC on that can be read. -/
theorem State.readsAtPC_pair {s : State} {b b' : Byte} (h : memRead s s.pc = .next b)
    (h' : memRead s (s.pc + 1) = .next b') : s.ReadsAtPC [b, b'] :=
  andThen_next_iff.mpr ⟨b, h, andThen_next_iff.mpr ⟨[b'], andThen_next_iff.mpr ⟨b', h', rfl⟩, rfl⟩⟩

/-- Where STOP_LEN is 2, the fault of STOP's second byte is the step's (R292, 60_exceptions.md R313 item 3). -/
theorem step_fault_of_unreadable_stop_byte {s : State} {f : Fault} (hop : memRead s s.pc = .next 0x10)
    (hlen : s.params.stopLen = .two) (hf : memRead s (s.pc + 1) = .fault f) : step s = .fault f := by
  obtain ⟨hfetch, -⟩ := (State.readsAtPC_singleton hop).fetch8
  have hsecond : fetch8 { s with pc := s.pc + 1 } = .fault f := andThen_fault_iff.mpr (.inl hf)
  have hshape : decodeMain 0x10 = .stop := rfl
  have hoperands : fetchOperands (decodeMain 0x10) { s with pc := s.pc + 1 } = .fault f := by
    simp only [hshape, fetchOperands, hlen, hsecond, andThen_fault]
  rw [step, fetchInstr, hfetch, andThen_next]
  exact andThen_fault_iff.mpr (.inl hoperands)

/-- Settles O54: the bytes read decode to STOP, and `step_fault_of_unreadable_stop_byte` is the other case. -/
theorem stopTakesStopLenBytes : Obligations.StopTakesStopLenBytes := by
  refine ⟨exec_instrOf .stop, fun s hop hlen => ?_, fun s b hop hlen hb => ?_,
    fun s f => step_fault_of_unreadable_stop_byte⟩
  · have hdecode : decode s.params.stopLen [0x10] = .ok (.stop, []) := by rw [hlen]; rfl
    rw [stepRunsDecodedInstruction s 1 _ _ (State.readsAtPC_singleton hop) hdecode]
    exact exec_instrOf .stop _
  · have hdecode : decode s.params.stopLen [0x10, b] = .ok (.stop, []) := by rw [hlen]; rfl
    rw [stepRunsDecodedInstruction s 2 _ _ (State.readsAtPC_pair hop hb) hdecode]
    exact exec_instrOf .stop _

/-! ## The unused opcodes

A fault of the fetch and of every other form is the fault of an access to memory, which is never UnknownOpcode. -/

mutual

/-- Delegation ends in a store or at a router with no range for the address (20_memory.md R55, R56). -/
theorem fault_of_locate {a : Nat} {f : Fault} : ∀ {p : Port}, locate a p = .fault f → ∃ b, f = .unmappedAddress b
  | .flat _, h => by simp at h
  | .router _, h => fault_of_lookup (locate_router .. ▸ h)

theorem fault_of_lookup {a : Nat} {f : Fault} : ∀ {es : MapList}, lookup a es = .fault f → ∃ b, f = .unmappedAddress b
  | .nil, h => by cases h; exact ⟨_, rfl⟩
  | .cons b t l es, h => by
    rw [lookup_cons] at h
    split at h
    · exact fault_of_locate h
    · exact fault_of_lookup h

end

/-- The two faults of an access to memory (20_memory.md R51, R56). -/
theorem State.fault_of_cell {s : State} {a : Word} {f : Fault} (h : s.cell a = .fault f) :
    (∃ b, f = .invalidAddress b) ∨ ∃ b, f = .unmappedAddress b := by
  unfold State.cell at h
  split at h
  · cases h
  · obtain h | ⟨c, -, h⟩ := andThen_fault_iff.mp h
    · exact .inr (fault_of_locate h)
    · split at h
      · cases h
      · split at h
        · cases h
        · cases h
          exact .inl ⟨_, rfl⟩

/-- UnknownOpcode is no fault of an access (60_exceptions.md R310). -/
theorem State.cell_ne_unknownOpcode {s : State} {a : Word} {op : Byte} : s.cell a ≠ .fault (.unknownOpcode op) := by
  intro h
  obtain ⟨b, hb⟩ | ⟨b, hb⟩ := State.fault_of_cell h <;> cases hb

theorem exists_cell_of_tryAll_fault {s : State} {f : Fault} : ∀ {l : List Word}, tryAll s l = .fault f →
    ∃ a, s.cell a = .fault f
  | [], h => by cases h
  | a :: _, h => by
    obtain h | ⟨_, _, h⟩ := andThen_fault_iff.mp h
    · exact ⟨a, h⟩
    · exact exists_cell_of_tryAll_fault h

theorem call_kind (a : Word) (s : State) : outKind (call a s) = tryAll s (pushAddrs s) :=
  (outKind_map ..).trans (push16_kind ..)

theorem ret_kind (s : State) : outKind (ret s) = tryAll s (popAddrs s) := (outKind_map ..).trans (pop16_kind s)

/-- A conditional transfer accesses what the transfer does, where its condition holds (43_control.md R227, R229). -/
theorem ite_condHolds_kind {cc : Cond} {s : State} {op : State → Out State} {l : List Word}
    (h : outKind (op s) = tryAll s l) :
    outKind (if condHolds s cc then op s else .next s) = tryAll s (if condHolds s cc then l else []) := by
  by_cases hcc : condHolds s cc = true
  · rw [if_pos hcc, if_pos hcc, h]
  · rw [if_neg hcc, if_neg hcc]
    rfl

/-- A form's meaning answers a state where every address it accesses has a cell, and else as the first that has none
says (60_exceptions.md R313 item 4); the unused opcodes are the exception. -/
theorem formMeaning_kind {φ : Form} (hφ : formIsUnused φ = false) (s : State) :
    outKind (formMeaning φ s) = tryAll s (formAccesses s φ) := by
  cases φ with
  | unused _ => cases hφ
  | inc _ | dec _ | shift _ _ => exact readWriteT8_kind s _ _ _
  | res _ _ | set _ _ =>
    refine (outKind_bind _ _ _ fun v _ => writeT8_kind s _ _).trans ?_
    rw [readT8_kind, formAccesses, tryAll_append]
    rfl
  | alu _ _ | bit _ _ | ldReg _ _ =>
    rw [formAccesses, formStores, List.append_nil]
    exact (outKind_map ..).trans (readT8_kind s _)
  | ldImm _ _ => exact writeT8_kind s _ _
  | ldStore _ | ldhStore _ | ldCStore | ldAbsStore _ => exact memWrite_kind s _ _
  | ldToInd _ => exact (outKind_map ..).trans (memWrite_kind s _ _)
  | ldFromInd _ | ldhLoad _ | ldCLoad | ldAbsLoad _ => exact (outKind_map ..).trans (memRead_kind s _)
  | ldAbsSP _ => exact memWrite16_kind s _ _
  | push _ => exact push16_kind s _
  | pop _ => exact (outKind_map ..).trans (pop16_kind s)
  | call _ | rst _ => exact call_kind _ s
  | callIf cc a => exact ite_condHolds_kind (call_kind a s)
  | ret => exact ret_kind s
  | retIf cc =>
    rw [formAccesses, formStores, List.append_nil]
    exact ite_condHolds_kind (ret_kind s)
  | reti => exact (outKind_map ..).trans (ret_kind s)
  | jpIf _ _ | jrIf _ _ => exact (ite_condHolds_kind (l := []) rfl).trans (by rw [ite_self]; rfl)
  | rotA op => cases op <;> rfl
  | aluImm _ _ | daa | cpl | scf | ccf | addHL _ | incPair _ | decPair _ | addSP _ | ldHLSP _ | ldPair _ _ | ldSPHL
  | jp _ | jpHL | jr _ | nop | halt | stop | di | ei => rfl

/-- Only the unused opcodes' form answers UnknownOpcode, with its own byte (R295). -/
theorem form_of_unknownOpcode {φ : Form} {s : State} {op : Byte}
    (h : formMeaning φ s = .fault (.unknownOpcode op)) : ∃ u : Unused, φ = .unused u ∧ u.opcode = op := by
  cases hφ : formIsUnused φ with
  | true =>
    cases φ with
    | unused u => cases h; exact ⟨u, rfl, rfl⟩
    | _ => cases hφ
  | false =>
    rw [← outKind_fault, formMeaning_kind hφ] at h
    obtain ⟨a, ha⟩ := exists_cell_of_tryAll_fault h
    exact absurd ha State.cell_ne_unknownOpcode

theorem fault_of_andThen_next {α β : Type} {o : Out α} {g : α → β} {f : Fault}
    (h : andThen o (fun v => .next (g v)) = .fault f) : o = .fault f := by
  obtain h | ⟨_, _, h⟩ := andThen_fault_iff.mp h
  · exact h
  · cases h

theorem cell_of_fetch8_fault {s : State} {f : Fault} (h : fetch8 s = .fault f) : s.cell s.pc = .fault f :=
  fault_of_andThen_next (fault_of_andThen_next h)

theorem exists_cell_of_fetch16_fault {s : State} {f : Fault} (h : fetch16 s = .fault f) :
    ∃ a, s.cell a = .fault f := by
  obtain h | ⟨r, hr, h⟩ := andThen_fault_iff.mp h
  · exact ⟨_, cell_of_fetch8_fault h⟩
  · obtain ⟨c, -, rfl⟩ := fetch8_next_iff.mp hr
    have hcell := cell_of_fetch8_fault (fault_of_andThen_next h)
    exact ⟨_, hcell⟩

theorem exists_cell_of_fetchOperands_fault {sh : Shape} {s : State} {f : Fault} (h : fetchOperands sh s = .fault f) :
    ∃ a, s.cell a = .fault f := by
  cases sh with
  | plain φ => cases h
  | imm8 mk | cbPage => exact ⟨_, cell_of_fetch8_fault (fault_of_andThen_next h)⟩
  | imm16 mk => exact exists_cell_of_fetch16_fault (fault_of_andThen_next h)
  | stop =>
    rw [fetchOperands] at h
    split at h
    · cases h
    · exact ⟨_, cell_of_fetch8_fault (fault_of_andThen_next h)⟩

/-- A fault of the fetch is the fault of an access to memory (60_exceptions.md R313 items 1 and 3). -/
theorem exists_cell_of_fetchInstr_fault {s : State} {f : Fault} (h : fetchInstr s = .fault f) :
    ∃ a, s.cell a = .fault f := by
  obtain h | ⟨r, hr, h⟩ := andThen_fault_iff.mp h
  · exact ⟨_, cell_of_fetch8_fault h⟩
  · obtain ⟨c, -, rfl⟩ := fetch8_next_iff.mp hr
    obtain ⟨a, ha⟩ := exists_cell_of_fetchOperands_fault h
    exact ⟨a, ha⟩

/-- What is fetched is the row of the opcode byte's shape, for some operands. -/
theorem fetchOperands_next_shape {sh : Shape} {s : State} {r : Instr × State} (h : fetchOperands sh s = .next r) :
    ∃ n w, r.1 = instrOf (sh.form n w) := by
  cases sh with
  | plain φ => cases h; exact ⟨0, 0, rfl⟩
  | imm8 _ | cbPage =>
    obtain ⟨v, -, h⟩ := andThen_next_iff.mp h
    cases h
    exact ⟨v.1, 0, rfl⟩
  | imm16 _ =>
    obtain ⟨v, -, h⟩ := andThen_next_iff.mp h
    cases h
    exact ⟨0, v.1, rfl⟩
  | stop =>
    rw [fetchOperands] at h
    split at h
    · cases h; exact ⟨0, 0, rfl⟩
    · obtain ⟨v, -, h⟩ := andThen_next_iff.mp h
      cases h
      exact ⟨0, 0, rfl⟩

/-- The instruction fetched stands at PC: its opcode byte is the byte there. -/
theorem opcode_of_fetchInstr_next {s : State} {r : Instr × State} (h : fetchInstr s = .next r) :
    ∃ op rest, memRead s s.pc = .next op ∧ encode .one r.1 = op :: rest := by
  obtain ⟨⟨op, v⟩, hop, h⟩ := andThen_next_iff.mp h
  obtain ⟨b, hb, hop⟩ := andThen_next_iff.mp hop
  cases hop
  obtain ⟨n, w, hr⟩ := fetchOperands_next_shape h
  exact ⟨op, _, hb, hr ▸ encodes_decodeMain .one op n w⟩

/-- A step answers UnknownOpcode only at that unused opcode. -/
theorem memRead_of_step_unknownOpcode {s : State} {op : Byte} (h : step s = .fault (.unknownOpcode op)) :
    memRead s s.pc = .next op ∧ ∃ u : Unused, u.opcode = op := by
  obtain h | ⟨⟨i, v⟩, hfetch, h⟩ := andThen_fault_iff.mp h
  · obtain ⟨a, ha⟩ := exists_cell_of_fetchInstr_fault h
    exact absurd ha State.cell_ne_unknownOpcode
  · obtain ⟨φ, rfl⟩ := exists_instrOf i
    rw [exec_instrOf] at h
    obtain ⟨u, rfl, hu⟩ := form_of_unknownOpcode h
    obtain ⟨op', rest, hread, hbytes⟩ := opcode_of_fetchInstr_next hfetch
    have hop : op' :: rest = [u.opcode] := hbytes.symm.trans (encode_unused .one u)
    cases hop
    exact ⟨hu ▸ hread, u, hu⟩

/-- Settles O6: at an unused opcode the step runs what the byte decodes to, and `memRead_of_step_unknownOpcode` is the
converse. -/
theorem unusedOpcodesFaultAlways : Obligations.UnusedOpcodesFaultAlways := by
  have hdecodes (u : Unused) : Decodes [u.opcode] (unusedInstr u) := decodes_of_encode fun sl => encode_unused sl u
  have hexec (u : Unused) (s : State) : exec (unusedInstr u) s = .fault (.unknownOpcode u.opcode) :=
    exec_instrOf (.unused u) s
  refine ⟨hdecodes, fun op => mem_unusedOpcodes_iff.symm, hexec, fun u s hread => ?_, fun s op h => ?_⟩
  · rw [stepRunsDecodedInstruction s 1 _ _ (State.readsAtPC_singleton hread) (hdecodes u _ [])]
    exact hexec u _
  · obtain ⟨hread, hu⟩ := memRead_of_step_unknownOpcode h
    exact ⟨hread, mem_unusedOpcodes_iff.mpr hu⟩

end Sys2Proof.Machine

/-! Statements about exceptions (spec/60_exceptions.md): which fault of the fetch and of the data accesses is the
step's, where an instruction completes, what a step can answer, and how a run ends. -/

namespace Sys2Proof.Machine

/-! ## How a run ends -/

/-- Settles O60: the clauses are the branches of `run`. -/
theorem runEndsAtFaultStopOrBound : Obligations.RunEndsAtFaultStopOrBound := by
  refine ⟨fun s => rfl, fun n s f h => ?_, fun n s t h hstopped => ?_, fun n s t h hstopped => ?_⟩
  · rw [run, h]
  · simp only [run, h, hstopped, if_true]
  · simp only [run, h, hstopped, Bool.false_eq_true, if_false]

/-! ## Faults of the data accesses -/

/-- The first address of a list that has no cell decides. -/
theorem tryAll_fault {s : State} {before after : List Word} {a : Word} {f : Fault}
    (hbefore : ∀ b ∈ before, s.Addressable b) (ha : s.cell a = .fault f) :
    tryAll s (before ++ a :: after) = .fault f := by
  rw [tryAll_append, tryAll_next hbefore, andThen_next, tryAll, ha, andThen_fault]

theorem exists_unused_of_formIsUnused {φ : Form} (h : formIsUnused φ = true) : ∃ u, φ = .unused u := by
  cases φ with
  | unused u => exact ⟨u, rfl⟩
  | _ => cases h

/-- Settles O10: the form makes an access, so it is no unused opcode, and its outcome is that of trying its accesses in
order (`formMeaning_kind`). -/
theorem dataFaultIsTheFirstFailingAccess : Obligations.DataFaultIsTheFirstFailingAccess := by
  intro φ s before after a f haccesses hbefore ha
  have hφ : formIsUnused φ = false := by
    refine Bool.eq_false_iff.mpr fun hunused => ?_
    obtain ⟨u, rfl⟩ := exists_unused_of_formIsUnused hunused
    have hnone : formAccesses s (.unused u) = [] := rfl
    simp [hnone] at haccesses
  rw [exec_instrOf, ← outKind_fault, formMeaning_kind hφ, haccesses]
  exact tryAll_fault hbefore ha

/-- Settles O11: every access has a cell, so trying them all ends in a value (`formMeaning_kind`). -/
theorem instructionsCompleteWhereAddressesExist : Obligations.InstructionsCompleteWhereAddressesExist := by
  refine ⟨exists_instrOf, fun φ s hφ haddressable => ?_⟩
  rw [exec_instrOf, ← outKind_next, formMeaning_kind hφ]
  exact tryAll_next haddressable

/-! ## Faults of the fetch

The fetch answers a value, faults or is refused as the reading of the instruction's bytes does. -/

/-- Reading bytes is reading the first and then the others. -/
theorem readBytes_succ_kind (s : State) (a : Word) (n : Nat) : outKind (readBytes s a (n + 1)) =
    andThen (memRead s a) fun _ => outKind (readBytes s (a + 1) n) := by
  rw [readBytes]
  cases memRead s a with
  | next b => exact outKind_map ..
  | fault | refused => rfl

theorem fetch8_kind (s : State) : outKind (fetch8 s) = outKind (readBytes s s.pc 1) :=
  (outKind_map (memRead s s.pc) _).trans (outKind_map (memRead s s.pc) fun b => [b]).symm

theorem fetch16_kind (s : State) : outKind (fetch16 s) = outKind (readBytes s s.pc 2) := by
  rw [fetch16, fetch8, readBytes_succ_kind]
  cases memRead s s.pc with
  | next l => exact (outKind_map ..).trans (fetch8_kind { s with pc := s.pc + 1 })
  | fault | refused => rfl

theorem fetchOperands_kind (sh : Shape) (s : State) :
    outKind (fetchOperands sh s) = outKind (readBytes s s.pc (sh.operands s.params.stopLen 0 0).length) := by
  cases sh with
  | plain _ => rfl
  | imm8 _ | cbPage => exact (outKind_map ..).trans (fetch8_kind s)
  | imm16 _ => exact (outKind_map ..).trans (fetch16_kind s)
  | stop =>
    simp only [fetchOperands, Shape.operands]
    cases s.params.stopLen with
    | one => rfl
    | two => exact (outKind_map ..).trans (fetch8_kind s)

/-- The fetch reads the opcode byte and then as many bytes as it asks for (30_encoding.md R90, R91). -/
theorem fetchInstr_kind (s : State) : outKind (fetchInstr s) =
    andThen (memRead s s.pc) fun op => outKind (readBytes s s.pc (instrLength s.params.stopLen op)) := by
  cases h : memRead s s.pc with
  | next op =>
    rw [fetchInstr, fetch8, h, andThen_next, andThen_next, fetchOperands_kind, readBytes_setPC, andThen_next,
      instrLength_eq _ op 0 0, readBytes_succ_kind, h, andThen_next]
  | fault | refused => rw [fetchInstr, fetch8, h]; rfl

/-- The first byte that cannot be read is the fault of reading any number of bytes it is among. -/
theorem readBytes_fault {s : State} {f : Fault} : ∀ {n m : Nat} {a : Word} {bs : List Byte},
    readBytes s a n = .next bs → n < m → memRead s (a + BitVec.ofNat 16 n) = .fault f → readBytes s a m = .fault f
  | 0, m + 1, a, _, _, _, hf => by
    rw [BitVec.add_zero] at hf
    rw [readBytes, hf, andThen_fault]
  | n + 1, m + 1, a, _, hbs, hlt, hf => by
    obtain ⟨b, hb, hbs⟩ := andThen_next_iff.mp hbs
    obtain ⟨bs, hbs, -⟩ := andThen_next_iff.mp hbs
    rw [Nat.add_comm, BitVec.ofNat_add, ← BitVec.add_assoc] at hf
    rw [readBytes, hb, andThen_next, readBytes_fault hbs (Nat.lt_of_succ_lt_succ hlt) hf, andThen_fault]

/-- Settles O9: the fetch faults as reading the instruction's bytes does (`fetchInstr_kind`), which is at the first that
cannot be read (`readBytes_fault`). -/
theorem fetchFaultIsTheFirstUnreadableByte : Obligations.FetchFaultIsTheFirstUnreadableByte := by
  intro s n bs f hread hmore hf
  have hfetch : fetchInstr s = .fault f := by
    rw [← outKind_fault, fetchInstr_kind]
    cases n with
    | zero =>
      rw [BitVec.add_zero] at hf
      rw [hf, andThen_fault]
    | succ n =>
      obtain ⟨op, hop, hrest⟩ := andThen_next_iff.mp hread
      obtain ⟨rest, -, hbs⟩ := andThen_next_iff.mp hrest
      cases hbs
      rw [hop, andThen_next, outKind_fault]
      exact readBytes_fault hread (hmore op rest rfl) hf
  rw [step, hfetch, andThen_fault]

/-! ## What a step can answer -/

/-- An outcome that an access to memory can have: a value or one of the port's two faults (20_memory.md R51, R56). -/
def AnswersAsAccess {α : Type} (o : Out α) : Prop :=
  (∃ v, o = .next v) ∨ (∃ a, o = .fault (.invalidAddress a)) ∨ ∃ a, o = .fault (.unmappedAddress a)

theorem AnswersAsAccess.andThen {α β : Type} {o : Out α} {k : α → Out β} (ho : AnswersAsAccess o)
    (hk : ∀ v, AnswersAsAccess (k v)) : AnswersAsAccess (andThen o k) := by
  obtain ⟨v, rfl⟩ | ⟨a, rfl⟩ | ⟨a, rfl⟩ := ho
  · exact hk v
  · exact .inr (.inl ⟨a, rfl⟩)
  · exact .inr (.inr ⟨a, rfl⟩)

theorem answersAsAccess_next {α : Type} (v : α) : AnswersAsAccess (.next v) := .inl ⟨v, rfl⟩

theorem answersAsAccess_outKind {α : Type} {o : Out α} : AnswersAsAccess (outKind o) ↔ AnswersAsAccess o := by
  cases o <;> simp [AnswersAsAccess, outKind]

mutual

/-- Delegation through a configuration that `map` accepted ends in a store that was built, or faults (20_memory.md
R54, R55). -/
theorem locate_of_wf {n a : Nat} : ∀ {p : Port}, p.wf n = true →
    (∃ c, locate a p = .next c ∧ c.1 < n) ∨ ∃ f, locate a p = .fault f
  | .flat k, h => .inl ⟨(k, a), locate_flat a k, by simpa [Port.wf] using h⟩
  | .router es, h => by
    rw [locate_router]
    exact lookup_of_wf (by simpa [Port.wf] using h)

theorem lookup_of_wf {n a : Nat} : ∀ {es : MapList}, es.wf n = true →
    (∃ c, lookup a es = .next c ∧ c.1 < n) ∨ ∃ f, lookup a es = .fault f
  | .nil, _ => .inr ⟨_, lookup_nil a⟩
  | .cons b t l es, h => by
    simp only [MapList.wf, Bool.and_eq_true] at h
    obtain ⟨⟨-, hb⟩, hes⟩ := h
    rw [lookup_cons]
    split
    · exact locate_of_wf hb
    · exact lookup_of_wf hes

end

theorem cellIn_ne_refused {stores : List FlatStore} {p : Port} (hp : p.wf stores.length = true) (a : Nat)
    (r : Refusal) : cellIn stores p a ≠ .refused r := by
  obtain ⟨c, hc, hlt⟩ | ⟨f, hf⟩ := locate_of_wf (a := a) hp
  · simp only [cellIn, hc, andThen_next, List.getElem?_eq_getElem hlt]
    split <;> simp [raise]
  · simp [cellIn, hf]

/-- An access of a well-formed machine with a memory attached is never refused (60_exceptions.md R324). -/
theorem State.cell_ne_refused {s : State} (hs : s.wf = true) (hattached : s.attached ≠ none) (a : Word) (r : Refusal) :
    s.cell a ≠ .refused r := by
  obtain ⟨p, hp⟩ := Option.ne_none_iff_exists'.mp hattached
  simp only [State.wf, State.attachedOk, hp, Bool.and_eq_true] at hs
  obtain ⟨⟨-, hwf⟩, -⟩ := hs
  rw [State.cell_of_attached hp]
  exact cellIn_ne_refused hwf _ r

theorem State.answersAsAccess_cell {s : State} (hs : s.wf = true) (hattached : s.attached ≠ none) (a : Word) :
    AnswersAsAccess (s.cell a) := by
  cases h : s.cell a with
  | next c => exact answersAsAccess_next c
  | fault f =>
    obtain ⟨b, rfl⟩ | ⟨b, rfl⟩ := State.fault_of_cell h
    · exact .inr (.inl ⟨b, rfl⟩)
    · exact .inr (.inr ⟨b, rfl⟩)
  | refused r => exact absurd h (State.cell_ne_refused hs hattached a r)

section

variable {s : State} (hcell : ∀ a, AnswersAsAccess (s.cell a))
include hcell

theorem answersAsAccess_memRead (a : Word) : AnswersAsAccess (memRead s a) :=
  (hcell a).andThen fun _ => answersAsAccess_next _

theorem answersAsAccess_readBytes (a : Word) (n : Nat) : AnswersAsAccess (readBytes s a n) := by
  induction n generalizing a with
  | zero => exact answersAsAccess_next _
  | succ n ih => exact (answersAsAccess_memRead hcell a).andThen fun _ => (ih _).andThen fun _ => answersAsAccess_next _

theorem answersAsAccess_tryAll (l : List Word) : AnswersAsAccess (tryAll s l) := by
  induction l with
  | nil => exact answersAsAccess_next _
  | cons a rest ih => exact (hcell a).andThen fun _ => ih

theorem answersAsAccess_fetchInstr : AnswersAsAccess (fetchInstr s) := by
  rw [← answersAsAccess_outKind, fetchInstr_kind]
  exact (answersAsAccess_memRead hcell _).andThen fun _ =>
    answersAsAccess_outKind.mpr (answersAsAccess_readBytes hcell _ _)

theorem answersAsAccess_formMeaning {φ : Form} (hφ : formIsUnused φ = false) : AnswersAsAccess (formMeaning φ s) := by
  rw [← answersAsAccess_outKind, formMeaning_kind hφ]
  exact answersAsAccess_tryAll hcell _

/-- An instruction answers as its accesses do, or is an unused opcode and faults with its own byte (60_exceptions.md
R310). -/
theorem exec_answers (i : Instr) :
    AnswersAsAccess (exec i s) ∨ ∃ op ∈ unusedOpcodes, exec i s = .fault (.unknownOpcode op) := by
  obtain ⟨φ, rfl⟩ := exists_instrOf i
  rw [exec_instrOf]
  cases hφ : formIsUnused φ with
  | false => exact .inl (answersAsAccess_formMeaning hcell hφ)
  | true =>
    obtain ⟨u, rfl⟩ := exists_unused_of_formIsUnused hφ
    exact .inr ⟨u.opcode, mem_unusedOpcodes_iff.mpr ⟨u, rfl⟩, rfl⟩

/-- A step answers as the fetch's accesses do, or as the instruction fetched (60_exceptions.md R313). -/
theorem step_answers : AnswersAsAccess (step s) ∨ ∃ op ∈ unusedOpcodes, step s = .fault (.unknownOpcode op) := by
  obtain ⟨⟨i, t⟩, h⟩ | hfault := answersAsAccess_fetchInstr hcell
  · obtain ⟨p, rfl⟩ := fetchInstr_next h
    rw [step, h, andThen_next]
    exact exec_answers (s := { s with pc := p }) hcell i
  · refine .inl (.inr (hfault.imp ?_ ?_)) <;> exact fun ⟨a, ha⟩ => ⟨a, by rw [step, ha, andThen_fault]⟩

end

/-- Settles O12: every access of the machine answers a value or one of the port's faults (`State.answersAsAccess_cell`),
and a step answers as its accesses do but for the unused opcodes (`step_answers`). -/
theorem stepAnswersNextOrOneOfThreeFaults : Obligations.StepAnswersNextOrOneOfThreeFaults := by
  intro s hs hattached
  obtain (hnext | hinvalid | hunmapped) | hunknown := step_answers (State.answersAsAccess_cell hs hattached)
  · exact .inl hnext
  · exact .inr (.inl hinvalid)
  · exact .inr (.inr (.inl hunmapped))
  · exact .inr (.inr (.inr hunknown))

end Sys2Proof.Machine

/-! Statements about reset, construction and launch (spec/70_reset_and_hazards.md): a reset machine is well formed where
its memory is, and what each of the host's operations writes. -/

namespace Sys2Proof.Machine

/-! ## Reset and the invariant -/

/-- F is 0 after a reset, so it obeys either F_LOW_POLICY (10_state.md R23, 70_reset_and_hazards.md R340). -/
theorem State.fLowOk_resetOver (stores : List FlatStore) (p : Option Port) (q : Params) :
    (State.resetOver stores p q).fLowOk = true := by
  rw [State.fLowOk_iff, State.resetOver_f]
  exact fun _ => BitVec.zero_and

/-- A reset machine is well formed exactly where its memory and what is attached are: its registers ask for nothing
more. -/
theorem State.wf_resetOver_iff {stores : List FlatStore} {p : Option Port} {q : Params} :
    (State.resetOver stores p q).wf = true ↔
      stores.all FlatStore.wf = true ∧ (State.resetOver stores p q).attachedOk = true := by
  rw [State.wf, State.fLowOk_resetOver, State.resetOver_stores, Bool.and_true, Bool.and_eq_true]

/-- The invariant's clause on what is attached reads no field that a reset writes (R342). -/
theorem attachedOk_hostReset (s : State) : (hostReset s).attachedOk = s.attachedOk := by
  rw [State.attachedOk, hostReset, State.resetOver_attached, State.resetOver_stores, State.attachedOk]

/-- Settles O18: a reset leaves only the memory and what is attached to check (`State.wf_resetOver_iff`). At
`State.reset` these are one empty store and a mapping to it; in `hostReset s` they are those of `s`. -/
theorem resetMachineIsWellFormed : Obligations.ResetMachineIsWellFormed := by
  refine ⟨State.wf_resetOver_iff.mpr ⟨by decide, by decide⟩, fun s hs => State.wf_resetOver_iff.mpr ?_⟩
  simp only [State.wf, Bool.and_eq_true] at hs
  obtain ⟨⟨hstores, hattached⟩, -⟩ := hs
  exact ⟨hstores, (attachedOk_hostReset s).trans hattached⟩

/-! ## Construction and launch -/

/-- A second reset over the same memory changes nothing: a reset state is a fixed point (R340, R342). -/
theorem hostReset_resetOver (stores : List FlatStore) (p : Option Port) (q : Params) :
    hostReset (State.resetOver stores p q) = State.resetOver stores p q := by
  rw [hostReset, State.resetOver_stores, State.resetOver_attached, State.resetOver_params]

/-- A whole-byte write of F, by F_LOW_POLICY (10_state.md R23). -/
theorem fWritten_eq (p : FLowPolicy) (v : Byte) :
    fWritten p v = match p with
      | .preserve => v
      | .zero => v &&& 0xF0 := by
  cases p <;> rfl

/-- A launch leaves the machine running over the same memory (70_reset_and_hazards.md R344). -/
theorem launch_frame (s : State) (v : Launch) :
    (launch s v).runState = .running ∧ (launch s v).stores = s.stores ∧ (launch s v).attached = s.attached :=
  ⟨rfl, rfl, rfl⟩

theorem launch_f (s : State) (v : Launch) : (launch s v).f = fWritten s.params.fLow v.f := rfl

/-- The host's writes of F and of AF, and POP AF's, leave in F what a whole-byte write of the low byte leaves there
(10_state.md R23). -/
theorem f_of_wholeByteWrites (s : State) (v : Word) :
    (hostWrite s .f v).f = fWritten s.params.fLow (lo v) ∧ (hostWrite s .af v).f = fWritten s.params.fLow (lo v) ∧
      (writeStackPair s .af v).f = fWritten s.params.fLow (lo v) :=
  ⟨writeF_f s (lo v), rfl, rfl⟩

/-- Settles O59: the laws of `State.resetOver` for the reset and the new core, `launch_frame` and `launch_f` for a
launch, `f_of_wholeByteWrites` with `fWritten_eq` for the writes of F, and `setFlag_and_low` for a flag write. -/
theorem resetConstructionAndLaunch : Obligations.ResetConstructionAndLaunch := by
  refine ⟨?reset, fun p => ⟨State.resetOver_attached .., hostReset_resetOver ..⟩, fun s p => rfl, ?launch, ?writesOfF,
    setFlag_and_low⟩
  case reset =>
    rintro s _ rfl
    simp [hostReset]
  case launch =>
    intro s v
    obtain ⟨hrun, hstores, hattached⟩ := launch_frame s v
    exact ⟨hrun, hstores, hattached, rfl, rfl, rfl, rfl, rfl, rfl, rfl, rfl, rfl, rfl,
      (launch_f s v).trans (fWritten_eq ..)⟩
  case writesOfF =>
    intro s v
    have h := f_of_wholeByteWrites s v
    rw [fWritten_eq] at h
    exact h

end Sys2Proof.Machine

/-! Statements about the canonical form of memory (notes/assumptions/2.md): the form's bytes determine its list. -/

namespace Sys2Proof.Machine

/-! ## Canonical memories that read alike -/

theorem Memory.wf_cons_iff {b : Nat} {v : Byte} {rest : Memory} :
    Memory.wf ((b, v) :: rest) = true ↔ v ≠ unlistedByte ∧ Memory.wfAbove b rest = true := by
  simp [Memory.wf]

@[simp] theorem Memory.get_cons_self (b : Nat) (v : Byte) (rest : Memory) : Memory.get b ((b, v) :: rest) = v :=
  if_pos rfl

theorem Memory.get_cons_of_ne {a b : Nat} (v : Byte) (rest : Memory) (h : a ≠ b) :
    Memory.get a ((b, v) :: rest) = Memory.get a rest :=
  if_neg h

/-- The first address of a canonical memory is the least one that does not read as the unlisted byte. -/
theorem Memory.head_le_of_get_ne {a b : Nat} {v : Byte} {rest : Memory} (h : Memory.wf ((b, v) :: rest) = true)
    (ha : Memory.get a ((b, v) :: rest) ≠ unlistedByte) : b ≤ a := by
  obtain ⟨-, hrest⟩ := Memory.wf_cons_iff.mp h
  by_contra hlt
  refine ha ?_
  rw [Memory.get_cons_of_ne v rest (by omega)]
  exact Memory.get_of_wfAbove hrest (by omega)

/-- At its first address a canonical memory reads unlike the empty one, which lists nothing. -/
theorem Memory.get_head_ne_get_nil {b : Nat} {v : Byte} {rest : Memory}
    (h : Memory.wf ((b, v) :: rest) = true) : Memory.get b ((b, v) :: rest) ≠ Memory.get b [] := by
  rw [Memory.get_cons_self]
  exact (Memory.wf_cons_iff.mp h).1

/-- Canonical memories that read alike have the same first cell: each first address is at or below the other. -/
theorem Memory.head_eq_of_get_eq {b b' : Nat} {v v' : Byte} {rest rest' : Memory}
    (h : Memory.wf ((b, v) :: rest) = true) (h' : Memory.wf ((b', v') :: rest') = true)
    (hget : ∀ a, Memory.get a ((b, v) :: rest) = Memory.get a ((b', v') :: rest')) : b = b' ∧ v = v' := by
  have hle : b ≤ b' := Memory.head_le_of_get_ne h (hget b' ▸ Memory.get_head_ne_get_nil h')
  have hge : b' ≤ b := Memory.head_le_of_get_ne h' (hget b ▸ Memory.get_head_ne_get_nil h)
  obtain rfl : b = b' := by omega
  exact ⟨rfl, by simpa using hget b⟩

/-- Under one first cell, canonical memories that read alike have rests that read alike: neither rest lists the first
address. -/
theorem Memory.get_eq_of_get_cons_eq {b : Nat} {v : Byte} {rest rest' : Memory}
    (h : Memory.wfAbove b rest = true) (h' : Memory.wfAbove b rest' = true)
    (hget : ∀ a, Memory.get a ((b, v) :: rest) = Memory.get a ((b, v) :: rest')) (a : Nat) :
    rest.get a = rest'.get a := by
  by_cases ha : a = b
  · rw [Memory.get_of_wfAbove h ha.le, Memory.get_of_wfAbove h' ha.le]
  · simpa only [Memory.get_cons_of_ne v _ ha] using hget a

/-- Settles O20, by induction on the first list: `Memory.head_eq_of_get_eq` for the first cells,
`Memory.get_eq_of_get_cons_eq` for what follows them. -/
theorem canonicalMemoriesThatReadAlikeAreEqual : Obligations.CanonicalMemoriesThatReadAlikeAreEqual := by
  intro m
  induction m with
  | nil =>
    rintro (_ | ⟨⟨b', v'⟩, rest'⟩) - h' hget
    · rfl
    · exact absurd (hget b').symm (Memory.get_head_ne_get_nil h')
  | cons c rest ih =>
    obtain ⟨b, v⟩ := c
    rintro (_ | ⟨⟨b', v'⟩, rest'⟩) h h' hget
    · exact absurd (hget b) (Memory.get_head_ne_get_nil h)
    · obtain ⟨rfl, rfl⟩ := Memory.head_eq_of_get_eq h h' hget
      obtain ⟨-, hrest⟩ := Memory.wf_cons_iff.mp h
      obtain ⟨-, hrest'⟩ := Memory.wf_cons_iff.mp h'
      rw [ih rest' (Memory.wf_of_wfAbove hrest) (Memory.wf_of_wfAbove hrest')
        (Memory.get_eq_of_get_cons_eq hrest hrest' hget)]

end Sys2Proof.Machine
